-- ==== Sys2Proof/Word.lean ====
section
/-! DEFINITION. The word types of the machine: what the spec treats as bits (00_scope.md R5, R7), and the four
access widths of the MemoryPort (20_memory.md R92). Only types and their plainest facts stand here. -/

namespace Sys2Proof

/-- One byte of physical memory. -/
abbrev Byte := BitVec 8

/-- 32 bits: an instruction word, or a 32-bit COP0 register. -/
abbrev Word := BitVec 32

/-- 64 bits: a general register, HI, LO, or a 64-bit COP0 register. -/
abbrev DWord := BitVec 64

/-- A virtual address (R90: 64 bits). -/
abbrev VAddr := BitVec 64

/-- A physical address (R90: 32 bits). -/
abbrev PAddr := BitVec 32

/-- A register number field (R162: 5 bits). -/
abbrev RegIdx := BitVec 5

/-- The sizes of one MemoryPort call (R92: n in 1, 2, 4, 8). -/
inductive Width where
  | byte
  | half
  | word
  | dword
  deriving DecidableEq, Repr

/-- The number of bytes a call of this width moves. -/
def Width.bytes : Width → Nat
  | .byte => 1
  | .half => 2
  | .word => 4
  | .dword => 8

/-- The number of bits a call of this width moves. -/
def Width.bits (w : Width) : Nat := 8 * w.bytes

end Sys2Proof
end

