-- ==== Sys2Proof/Config.lean ====
section
/-! DEFINITION. What the spec leaves open: the parameters of 00_scope.md R6 and the platform's map of R91, as plain
data, and the free values, as constants without a body. The free values are what the agents outside the block answer
(20_memory.md R92 d, 46_cop1_interface.md R431) and what the spec calls `draw` (R8). -/

namespace Sys2Proof.Config

/-- What stands behind a stretch of the physical space (R91). -/
inductive RegionKind where
  /-- Read and written as bytes (R92 c). -/
  | ram
  /-- Boot ROM or cartridge ROM: read as bytes. PRESUMED (log 4): a write is discarded. Unsafe. -/
  | rom
  /-- A peripheral register window: what a read gives is the peripheral's choice (R92 d). -/
  | device
  deriving DecidableEq, Repr

/-- One entry of the platform's partition of the physical space (R91). -/
structure Region where
  base : Nat
  size : Nat
  kind : RegionKind
  deriving DecidableEq, Repr

/-- `P_UNLISTED_COP0_WRITE` (R6, R48). -/
inductive UnlistedWrite where
  | halt
  | ignore
  deriving DecidableEq, Repr

/-- The open parameters the model takes as arguments (R6) and the platform's map (R91, R92). Log 3, log 10. -/
structure Params where
  /-- `P_COP0_GATE`. -/
  cop0Gate : Bool
  /-- `P_UNLISTED_COP0_WRITE`. -/
  unlistedWrite : UnlistedWrite
  /-- The partition of the physical space; what no region covers is unmapped. -/
  map : List Region
  deriving DecidableEq, Repr

/-- One call the block makes on an agent outside it: the FPU port (R431) or a peripheral window (R92 d). -/
inductive PortCall where
  /-- A read of a peripheral window. -/
  | deviceRead (pa : PAddr) (w : Width)
  /-- A write to a peripheral window. -/
  | deviceWrite (pa : PAddr) (w : Width) (v : DWord)
  /-- `FpuCond()`. -/
  | fpuCond
  /-- `FpuMoveFrom(word, FR)`. -/
  | fpuMoveFrom (word : Word) (fr : Bool)
  /-- `FpuMoveTo(word, v64, FR)`. -/
  | fpuMoveTo (word : Word) (v : DWord) (fr : Bool)
  /-- `FpuLoad(ft, n, data, FR)`. -/
  | fpuLoad (ft : RegIdx) (w : Width) (data : DWord) (fr : Bool)
  /-- `FpuStoreData(ft, n, FR)`. -/
  | fpuStoreData (ft : RegIdx) (w : Width) (fr : Bool)
  /-- `FpuExec(word, FR)`. -/
  | fpuExec (word : Word) (fr : Bool)
  deriving DecidableEq, Repr

/-- Free value: the datum an outside agent answers, given every call made so far, the one it answers first (R92 d,
R431). DEDUCED (log 6, log 7), safe: an agent's answer may depend on everything it was ever told. -/
opaque answerWord : List PortCall → DWord

/-- Free value: whether the FPU reports a floating-point exception to the first of these calls (R431). Log 7. -/
opaque answerFpe : List PortCall → Bool

/-- Free value: the floating-point condition bit the FPU answers to the first of these calls (R431). Log 7. -/
opaque answerCond : List PortCall → Bool

/-- Free value: the `n`-th draw of a 64-bit value (R48). Log 8. -/
opaque freeWord : Nat → DWord

/-- Free value: the `n`-th draw of a number, reduced to the set drawn from where it is used (R32, R412). Log 8. -/
opaque freeIndex : Nat → Nat

/-- The physical address the reset `pc` maps to, which the platform must back with the boot ROM (R91, R522). -/
def resetAddress : Nat := 0x1FC00000

/-- The map of the model's own launch state: the boot ROM at the reset address (R91, R522), over the 4 MiB from there to
the end of what kseg1 reaches (R105), and RAM everywhere else. DESIGN CHOICE (log 3), unsafe: the spec gives neither the
ROM's size nor any other address. -/
def launchMap : List Region :=
  [⟨0, resetAddress, .ram⟩, ⟨resetAddress, 0x400000, .rom⟩, ⟨0x20000000, 0xE0000000, .ram⟩]

/-- The defaults R6 gives, over a given map. -/
def Params.withMap (map : List Region) : Params :=
  { cop0Gate := false, unlistedWrite := .halt, map := map }

end Sys2Proof.Config
end

