-- ==== Sys2Proof/Machine/State.lean ====
section
/-! DEFINITION. Everything the spec gives the machine (10_state.md), as plain data, with what stands behind its two
ports; the reasons a step stops; and the state after reset. INVENTORY.md lists each field with its rule. -/

namespace Sys2Proof.Machine

/-- The kind of a translation failure (20_memory.md R112). -/
inductive TlbFail where
  | miss
  | invalid
  | modification
  | disallowedAddress
  deriving DecidableEq, Repr

/-- One half-page descriptor of a TLB entry (10_state.md R50): frame number in units of 4 KiB, cache attribute (carried,
never interpreted, R119), dirty and valid bits. -/
structure TlbHalf where
  pfn : BitVec 24
  c : BitVec 3
  d : Bool
  v : Bool
  deriving DecidableEq, Repr

/-- One TLB entry (10_state.md R50, R52). -/
structure TlbEntry where
  initialized : Bool
  r : BitVec 2
  vpn2 : BitVec 27
  asid : BitVec 8
  g : Bool
  mask : BitVec 12
  even : TlbHalf
  odd : TlbHalf
  deriving DecidableEq, Repr

/-- The COP0 registers (10_state.md R30 to R46). Random and the unlisted numbers hold no state (R32, R48). -/
structure Cop0 where
  index : Word
  entryLo0 : DWord
  entryLo1 : DWord
  context : DWord
  pageMask : Word
  wired : Word
  badVAddr : DWord
  count : Word
  entryHi : DWord
  compare : Word
  status : Word
  cause : Word
  epc : DWord
  llAddr : Word
  xContext : DWord
  errorEPC : DWord
  deriving DecidableEq, Repr

/-- The five external interrupt lines, `Cause.IP[2]` to `Cause.IP[6]` (60_exceptions.md R480, R482). -/
inductive IrqLine where
  | ip2
  | ip3
  | ip4
  | ip5
  | ip6
  deriving DecidableEq, Repr

/-- What the environment may do between two steps (00_scope.md R10): drive an interrupt line (R480), tick the timer
(R490), or, as another bus master, write a byte of RAM (R136). -/
inductive EnvEvent where
  | irqSet (n : IrqLine)
  | irqClear (n : IrqLine)
  | timerTick
  | busWrite (pa : PAddr) (b : Byte)
  deriving DecidableEq, Repr

/-- The bytes behind the MemoryPort: addresses strictly rising, no entry equal to what an unlisted address reads as. -/
abbrev Memory := List Host.Cell

/-- The machine. Every field is the spec's, but for `mem` (behind the MemoryPort, R58), `params` (R6, R91) and the
model's own `schedule`, `ports` and `draws`. -/
structure State where
  /-- x[0] to x[31] (R20); index 0 always holds 0. -/
  gpr : Vector DWord 32
  hi : DWord
  lo : DWord
  pc : VAddr
  nextPC : VAddr
  oldPC : VAddr
  delaySlot : Bool
  /-- `cur_ds`, latched at the start of each step (R25). Log 11. -/
  curDS : Bool
  llBit : Bool
  /-- `tlb_error`; `none` is the spec's NONE (R29). -/
  tlbError : Option TlbFail
  cop0 : Cop0
  tlb : Vector TlbEntry 32
  mem : Memory
  params : Config.Params
  /-- The model's: the environment events still to come, one list for each following step. Log 9. -/
  schedule : List (List EnvEvent)
  /-- The model's: every call made on an outside agent so far, newest first. Log 6, log 7. -/
  ports : List Config.PortCall
  /-- The model's: how many draws were made. Log 8. -/
  draws : Nat
  deriving DecidableEq, Repr

/-- Why the machine halts: the closed list of R500. A halt leaves no next state (R9). Each is the spec's own halt, so
stopping there is faithful; log 12. -/
inductive Fault where
  /-- Raised by `step` when the fetched word does not decode (R172); carries the faulting pc and the raw word. Safe. -/
  | reservedEncoding (pc : VAddr) (word : Word)
  /-- Raised by an access whose translation gave MODIFICATION for a load (R115); no translation does. Safe. -/
  | tlbExceptionNoCase
  /-- Raised by the first translation under KSU = 11 with EXL = ERL = 0 (R55). Safe. -/
  | undefinedMode
  /-- Raised by MTC0 and DMTC0 to a number the spec does not list, under the default parameter (R48, R409). Safe. -/
  | unlistedCop0Write (n : RegIdx)
  /-- Raised by TLBR and TLBWI with an index above 31, and by TLBWR with Wired above 31 (R410 to R412). Safe. -/
  | tlbIndexOutOfRange (i : BitVec 6)
  deriving DecidableEq, Repr

/-- Why an instruction has no meaning here. Raised only by arms of `exec` that are not modelled yet; none is left. Safe:
a refused step proves nothing. -/
inductive Refusal where
  | notModelled (mnemonic : String)
  deriving DecidableEq, Repr

/-- What an operation of the machine answers (00_scope.md R9). -/
abbrev Result := Host.Outcome State Fault Refusal

/-- All zero: the values the model names where reset leaves a register unspecified. DESIGN CHOICE (log 1), unsafe. -/
def Cop0.zero : Cop0 where
  index := 0
  entryLo0 := 0
  entryLo1 := 0
  context := 0
  pageMask := 0
  wired := 0
  badVAddr := 0
  count := 0
  entryHi := 0
  compare := 0
  status := 0
  cause := 0
  epc := 0
  llAddr := 0
  xContext := 0
  errorEPC := 0

/-- An entry of zeros. DESIGN CHOICE (log 1). -/
def TlbEntry.zero : TlbEntry where
  initialized := false
  r := 0
  vpn2 := 0
  asid := 0
  g := false
  mask := 0
  even := ⟨0, 0, false, false⟩
  odd := ⟨0, 0, false, false⟩

/-- The COP0 registers after reset (R70), what R70 leaves unspecified taken from `u`: Status.ERL = BEV = 1 and
SR = TS = RP = 0, Wired = 0, and the reserved bits of every register zero. -/
def Cop0.resetFrom (u : Cop0) : Cop0 where
  index := u.index &&& 0x8000003F#32
  entryLo0 := u.entryLo0 &&& 0x3FFFFFFF#64
  entryLo1 := u.entryLo1 &&& 0x3FFFFFFF#64
  context := u.context &&& 0xFFFFFFFFFFFFFFF0#64
  pageMask := u.pageMask &&& 0x01FFE000#32
  wired := 0
  badVAddr := u.badVAddr
  count := u.count
  entryHi := u.entryHi &&& 0xC00000FFFFFFE0FF#64
  compare := u.compare
  status := (u.status &&& 0xF707FFFF#32) ||| 0x00400004#32
  cause := u.cause &&& 0xB000FF7C#32
  epc := u.epc
  llAddr := u.llAddr
  xContext := u.xContext &&& 0xFFFFFFFFFFFFFFF0#64
  errorEPC := u.errorEPC

/-- `Reset()` (70_reset_and_hazards.md R520, 10_state.md R70): every value the table states, and every unspecified one
taken from `u`, the launch state. What is not the block's own (`mem`, `params`, and the model's `schedule`, `ports`,
`draws`) is kept. DESIGN CHOICE (log 20). -/
def State.resetFrom (u : State) : State where
  gpr := u.gpr.set 0 0
  hi := u.hi
  lo := u.lo
  pc := 0xFFFFFFFFBFC00000#64
  nextPC := 0xFFFFFFFFBFC00004#64
  oldPC := u.oldPC
  delaySlot := false
  curDS := false
  llBit := u.llBit
  tlbError := none
  cop0 := u.cop0.resetFrom
  tlb := u.tlb.map fun e => { e with initialized := false }
  mem := u.mem
  params := u.params
  schedule := u.schedule
  ports := u.ports
  draws := u.draws

/-- The launch state the model names: all zero (log 1), nothing listed in memory (log 2), the default parameters over a
map with the boot ROM at the reset address (log 3), no events (log 9). -/
def State.launch : State where
  gpr := Vector.replicate 32 0
  hi := 0
  lo := 0
  pc := 0
  nextPC := 0
  oldPC := 0
  delaySlot := false
  curDS := false
  llBit := false
  tlbError := none
  cop0 := Cop0.zero
  tlb := Vector.replicate 32 TlbEntry.zero
  mem := []
  params := Config.Params.withMap Config.launchMap
  schedule := []
  ports := []
  draws := 0

/-- The machine right after reset (R70). -/
def State.reset : State := State.launch.resetFrom

end Sys2Proof.Machine
end

