-- ==== Sys2Proof/Machine/Operands.lean ====
section
/-! DEFINITION. Operand forms: extensions (00_scope.md R7), immediates (30_encoding.md R163), effective addresses
(43_load_store.md R321), branch and jump targets (42_branch_jump.md R283, R284), shift amounts, the merges of the
left and right family (R329 to R341), and byte order within a datum (20_memory.md R93). -/

namespace Sys2Proof.Machine

/-- `sext_n(v)`: the low `n` bits of `v`, sign-extended to 64 bits (R7). -/
def sext {w : Nat} (n : Nat) (v : BitVec w) : DWord := (v.setWidth n).signExtend 64

/-- `zext_n(v)`: the low `n` bits of `v`, zero-extended to 64 bits (R7). -/
def zext {w : Nat} (n : Nat) (v : BitVec w) : DWord := (v.setWidth n).setWidth 64

/-- The low word of a register (R201). -/
def low32 (v : DWord) : Word := v.setWidth 32

/-- The sign-extended immediate of arithmetic, comparison, trap, load and store forms (R163 a, d). -/
def simm (imm : BitVec 16) : DWord := imm.signExtend 64

/-- The zero-extended immediate of the logical forms (R163 b). -/
def zimm (imm : BitVec 16) : DWord := imm.setWidth 64

/-- The value LUI loads (R163 c). -/
def upperImm (imm : BitVec 16) : DWord := (imm ++ 0#16).signExtend 64

/-- The effective address of a load or store, modulo 2^64 (R321). -/
def effAddr (base : DWord) (imm : BitVec 16) : VAddr := base + simm imm

/-- `sext_18(imm16 ++ 00)`: a branch offset in bytes (R163 e). -/
def branchOffset (imm : BitVec 16) : DWord := (imm ++ 0#2).signExtend 64

/-- The target of a conditional branch, from the address of its delay slot (R283). -/
def branchTarget (slot : VAddr) (imm : BitVec 16) : VAddr := slot + branchOffset imm

/-- The target of J and JAL, from the address of the jump itself (R284). -/
def jumpTarget (old : VAddr) (target : BitVec 26) : VAddr :=
  (old &&& 0xFFFFFFFFF0000000#64) ||| (target ++ 0#2).setWidth 64

/-- The amount of a fixed shift (R163 g). -/
def saAmount (sa : BitVec 5) : Nat := sa.toNat

/-- The amount of the `32` forms (R163 g). -/
def saAmount32 (sa : BitVec 5) : Nat := sa.toNat + 32

/-- The amount of a 32-bit variable shift: the low 5 bits of the register (R163 g). -/
def varAmount5 (v : DWord) : Nat := (v.extractLsb' 0 5).toNat

/-- The amount of a 64-bit variable shift: the low 6 bits of the register (R163 g). -/
def varAmount6 (v : DWord) : Nat := (v.extractLsb' 0 6).toNat

/-- 1 for true and 0 for false, as SLT and SC report it. -/
def boolToDWord (b : Bool) : DWord := if b then 1 else 0

/-- An address is a multiple of the access size (R94). -/
def aligned (w : Width) (va : VAddr) : Bool :=
  match w with
  | .byte => true
  | .half => va.extractLsb' 0 1 == 0#1
  | .word => va.extractLsb' 0 2 == 0#2
  | .dword => va.extractLsb' 0 3 == 0#3

/-- The address of the enclosing aligned datum of a width (R342). -/
def alignDown (w : Width) (pa : PAddr) : PAddr :=
  match w with
  | .byte => pa
  | .half => pa &&& 0xFFFFFFFE#32
  | .word => pa &&& 0xFFFFFFFC#32
  | .dword => pa &&& 0xFFFFFFF8#32

/-- `8 * ea[1:0]`. -/
def wordShift (ea : VAddr) : Nat := 8 * (ea.extractLsb' 0 2).toNat

/-- `8 * ea[2:0]`. -/
def dwordShift (ea : VAddr) : Nat := 8 * (ea.extractLsb' 0 3).toNat

/-- The result of a left load: the datum's bytes from `s` bits down, above the old low bytes (R329, R331). -/
def mergeLoadLeft {n : Nat} (old w : BitVec n) (s : Nat) : BitVec n :=
  (old &&& ~~~(BitVec.allOnes n <<< s)) ||| (w <<< s)

/-- The result of a right load (R330, R332); `s` is the number of bits of the datum left out. -/
def mergeLoadRight {n : Nat} (old w : BitVec n) (s : Nat) : BitVec n :=
  (old &&& ~~~(BitVec.allOnes n >>> s)) ||| (w >>> s)

/-- The datum a left store leaves in memory (R338, R340). -/
def mergeStoreLeft {n : Nat} (w v : BitVec n) (s : Nat) : BitVec n :=
  (w &&& ~~~(BitVec.allOnes n >>> s)) ||| (v >>> s)

/-- The datum a right store leaves in memory (R339, R341). -/
def mergeStoreRight {n : Nat} (w v : BitVec n) (s : Nat) : BitVec n :=
  (w &&& ~~~(BitVec.allOnes n <<< s)) ||| (v <<< s)

/-- The value LWL writes: `s = 8 * ea[1:0]` (R329). -/
def lwlValue (ea : VAddr) (old w : DWord) : DWord :=
  (mergeLoadLeft (low32 old) (low32 w) (wordShift ea)).signExtend 64

/-- The value LWR writes: `s = 8 * (3 - ea[1:0])` (R330). -/
def lwrValue (ea : VAddr) (old w : DWord) : DWord :=
  (mergeLoadRight (low32 old) (low32 w) (24 - wordShift ea)).signExtend 64

/-- The value LDL writes (R331). -/
def ldlValue (ea : VAddr) (old w : DWord) : DWord := mergeLoadLeft old w (dwordShift ea)

/-- The value LDR writes (R332). -/
def ldrValue (ea : VAddr) (old w : DWord) : DWord := mergeLoadRight old w (56 - dwordShift ea)

/-- The word SWL leaves in memory (R338). -/
def swlValue (ea : VAddr) (w v : DWord) : DWord := (mergeStoreLeft (low32 w) (low32 v) (wordShift ea)).setWidth 64

/-- The word SWR leaves in memory (R339). -/
def swrValue (ea : VAddr) (w v : DWord) : DWord :=
  (mergeStoreRight (low32 w) (low32 v) (24 - wordShift ea)).setWidth 64

/-- The doubleword SDL leaves in memory (R340). -/
def sdlValue (ea : VAddr) (w v : DWord) : DWord := mergeStoreLeft w v (dwordShift ea)

/-- The doubleword SDR leaves in memory (R341). -/
def sdrValue (ea : VAddr) (w v : DWord) : DWord := mergeStoreRight w v (56 - dwordShift ea)

/-- Byte `k` of a datum of width `w`, counted from the most significant: big-endian order (R93). -/
def byteAt (w : Width) (v : DWord) (k : Nat) : Byte := v.extractLsb' (8 * (w.bytes - 1 - k)) 8

/-- `reg <- (reg & ~mask) | (v & mask)` (10_state.md R30). -/
def maskedWrite {n : Nat} (mask old v : BitVec n) : BitVec n := (old &&& ~~~mask) ||| (v &&& mask)

end Sys2Proof.Machine
end

