-- ==== Sys2Proof/Machine/Memory.lean ====
section
/-! DEFINITION. The byte memory behind the MemoryPort, in one canonical form, and the port itself (20_memory.md R90 to
R96). -/

namespace Sys2Proof.Machine

/-- What a byte that nothing has written reads as. DESIGN CHOICE (log 2), unsafe: the spec gives RAM no contents. -/
def unlistedByte : Byte := 0#8

/-- The byte listed at an address. -/
def Memory.lookup : Memory → Nat → Byte
  | [], _ => unlistedByte
  | (x, c) :: m, a => if x = a then c else Memory.lookup m a

/-- The list without any entry at `a`. -/
def Memory.remove (m : Memory) (a : Nat) : Memory := m.filter fun c => c.1 != a

/-- The list with an entry put in its place. -/
def Memory.place : Memory → Nat → Byte → Memory
  | [], a, b => [(a, b)]
  | (x, c) :: m, a, b => if a < x then (a, b) :: (x, c) :: m else (x, c) :: Memory.place m a b

/-- The byte at a physical address. -/
def Memory.readByte (m : Memory) (a : PAddr) : Byte := m.lookup a.toNat

/-- The memory with one byte written, in canonical form again. -/
def Memory.writeByte (m : Memory) (a : PAddr) (b : Byte) : Memory :=
  if b = unlistedByte then m.remove a.toNat else (m.remove a.toNat).place a.toNat b

/-- Addresses at least `lo` and strictly rising, inside the physical space (R90), and no entry equal to what an unlisted
address reads as. -/
def Memory.wfFrom : Nat → Memory → Bool
  | _, [] => true
  | lo, (x, c) :: m =>
    decide (lo ≤ x) && decide (x < 2 ^ 32) && decide (c ≠ unlistedByte) && Memory.wfFrom (x + 1) m

/-- The canonical form: equal memories are equal lists. -/
def Memory.wf (m : Memory) : Bool := Memory.wfFrom 0 m

/-- The datum of a width at a physical address, zero-extended: the byte at the lowest address is the most significant
(R93). -/
def Memory.read (m : Memory) (pa : PAddr) : Width → DWord
  | .byte => (m.readByte pa).setWidth 64
  | .half => (m.readByte pa ++ m.readByte (pa + 1#32)).setWidth 64
  | .word => (m.readByte pa ++ m.readByte (pa + 1#32) ++ m.readByte (pa + 2#32) ++ m.readByte (pa + 3#32)).setWidth 64
  | .dword => m.readByte pa ++ m.readByte (pa + 1#32) ++ m.readByte (pa + 2#32) ++ m.readByte (pa + 3#32)
      ++ m.readByte (pa + 4#32) ++ m.readByte (pa + 5#32) ++ m.readByte (pa + 6#32) ++ m.readByte (pa + 7#32)

/-- The memory with the first `k` bytes of a datum of width `w` written from `pa` on. -/
def Memory.writeBytes (m : Memory) (pa : PAddr) (w : Width) (v : DWord) : Nat → Memory
  | 0 => m
  | k + 1 => (Memory.writeBytes m pa w v k).writeByte (pa + BitVec.ofNat 32 k) (byteAt w v k)

/-- The memory with a datum of width `w` written at `pa` (R93). -/
def Memory.write (m : Memory) (pa : PAddr) (w : Width) (v : DWord) : Memory := m.writeBytes pa w v w.bytes

/-- What stands at a physical address; `none` where no region is mapped (R91). -/
def regionAt : List Config.Region → PAddr → Option Config.RegionKind
  | [], _ => none
  | r :: rs, pa => if r.base ≤ pa.toNat ∧ pa.toNat < r.base + r.size then some r.kind else regionAt rs pa

/-- The region a port call falls in: that of its first byte. DESIGN CHOICE (log 5), unsafe for a map whose regions do
not start on doubleword boundaries; `Config.Params.wellFormed` refuses such a map. -/
def State.region (pa : PAddr) (s : State) : Option Config.RegionKind := regionAt s.params.map pa

/-- The value of `MemRead(pa, n)` (R92): RAM and ROM give their bytes, unmapped space gives zero, and a peripheral gives
what it decides (a free value; DEDUCED from R92 d, log 6). -/
def State.memReadValue (pa : PAddr) (w : Width) (s : State) : DWord :=
  match s.region pa with
  | some .ram => s.mem.read pa w
  | some .rom => s.mem.read pa w
  | some .device => zext w.bits (Config.answerWord (.deviceRead pa w :: s.ports))
  | none => 0

/-- The calls on outside agents after a `MemRead`. -/
def State.portsAfterRead (pa : PAddr) (w : Width) (s : State) : List Config.PortCall :=
  match s.region pa with
  | some .device => .deviceRead pa w :: s.ports
  | _ => s.ports

/-- `MemRead(pa, n)`: the value, zero-extended, and the state after the call, which only a peripheral's call changes. -/
def State.memRead (pa : PAddr) (w : Width) (s : State) : DWord × State :=
  (s.memReadValue pa w, { s with ports := s.portsAfterRead pa w })

/-- The bytes after a `MemWrite`: RAM takes them; unmapped space discards them (R92 a); so does ROM (PRESUMED, log 4). -/
def State.memAfterWrite (pa : PAddr) (w : Width) (v : DWord) (s : State) : Memory :=
  match s.region pa with
  | some .ram => s.mem.write pa w v
  | _ => s.mem

/-- The calls on outside agents after a `MemWrite`. -/
def State.portsAfterWrite (pa : PAddr) (w : Width) (v : DWord) (s : State) : List Config.PortCall :=
  match s.region pa with
  | some .device => .deviceWrite pa w (zext w.bits v) :: s.ports
  | _ => s.ports

/-- `MemWrite(pa, n, v)`: writes the low `8n` bits of `v` (R92). -/
def State.memWrite (pa : PAddr) (w : Width) (v : DWord) (s : State) : State :=
  { s with mem := s.memAfterWrite pa w v, ports := s.portsAfterWrite pa w v }

end Sys2Proof.Machine
end

