-- ==== Sys2Proof/Machine/Flags.lean ====
section
/-! DEFINITION. The fields of Status and Cause (10_state.md R41, R42), the signals derived from them (R55, R56,
60_exceptions.md R481), and the overflow tests (40_alu.md R200). The machine has no condition flags (R28). -/

namespace Sys2Proof.Machine

-- Status (R41).

/-- Status.IE, bit 0. -/
def statusIE (st : Word) : Bool := st.getLsbD 0
/-- Status.EXL, bit 1. -/
def statusEXL (st : Word) : Bool := st.getLsbD 1
/-- Status.ERL, bit 2. -/
def statusERL (st : Word) : Bool := st.getLsbD 2
/-- Status.KSU, bits 4:3. -/
def statusKSU (st : Word) : BitVec 2 := st.extractLsb' 3 2
/-- Status.UX, bit 5. -/
def statusUX (st : Word) : Bool := st.getLsbD 5
/-- Status.SX, bit 6. -/
def statusSX (st : Word) : Bool := st.getLsbD 6
/-- Status.KX, bit 7. -/
def statusKX (st : Word) : Bool := st.getLsbD 7
/-- Status.IM, bits 15:8. -/
def statusIM (st : Word) : BitVec 8 := st.extractLsb' 8 8
/-- Status.BEV, bit 22. -/
def statusBEV (st : Word) : Bool := st.getLsbD 22
/-- Status.FR, bit 26. -/
def statusFR (st : Word) : Bool := st.getLsbD 26
/-- Status.CU0, bit 28. -/
def statusCU0 (st : Word) : Bool := st.getLsbD 28
/-- Status.CU1, bit 29. -/
def statusCU1 (st : Word) : Bool := st.getLsbD 29

/-- Status with EXL set. -/
def statusSetEXL (st : Word) : Word := st ||| 0x00000002#32
/-- Status with EXL clear. -/
def statusClearEXL (st : Word) : Word := st &&& 0xFFFFFFFD#32
/-- Status with ERL clear. -/
def statusClearERL (st : Word) : Word := st &&& 0xFFFFFFFB#32

-- Cause (R42).

/-- Cause.IP, bits 15:8. -/
def causeIP (c : Word) : BitVec 8 := c.extractLsb' 8 8
/-- Cause.BD, bit 31. -/
def causeBD (c : Word) : Bool := c.getLsbD 31
/-- Cause.CE, bits 29:28. -/
def causeCE (c : Word) : BitVec 2 := c.extractLsb' 28 2
/-- Cause.ExcCode, bits 6:2. -/
def causeExcCode (c : Word) : BitVec 5 := c.extractLsb' 2 5

/-- Cause with BD as given. -/
def causeWithBD (bd : Bool) (c : Word) : Word :=
  if bd then c ||| 0x80000000#32 else c &&& 0x7FFFFFFF#32
/-- Cause with ExcCode and CE as given. -/
def causeWithCode (code : BitVec 5) (cop : BitVec 2) (c : Word) : Word :=
  (c &&& 0xCFFFFF83#32) ||| (cop.setWidth 32 <<< 28) ||| (code.setWidth 32 <<< 2)
/-- Cause with the interrupt-pending bits of `m` set. -/
def causeSetIP (m : BitVec 8) (c : Word) : Word := c ||| (m.setWidth 32 <<< 8)
/-- Cause with the interrupt-pending bits of `m` clear. -/
def causeClearIP (m : BitVec 8) (c : Word) : Word := c &&& ~~~(m.setWidth 32 <<< 8)

/-- `IP[7]`, the timer's bit (R482). -/
def ipTimer : BitVec 8 := 0x80#8

/-- The pending bit of an external line (R482). -/
def IrqLine.bit : IrqLine → BitVec 8
  | .ip2 => 0x04#8
  | .ip3 => 0x08#8
  | .ip4 => 0x10#8
  | .ip5 => 0x20#8
  | .ip6 => 0x40#8

/-- The privilege modes (R495). -/
inductive Mode where
  | kernel
  | supervisor
  | user
  deriving DecidableEq, Repr

/-- The current mode (R55); none of the three when KSU is 11 outside EXL and ERL. -/
def modeOf (st : Word) : Option Mode :=
  if statusEXL st || statusERL st then some .kernel
  else
    match statusKSU st with
    | 0b00#2 => some .kernel
    | 0b01#2 => some .supervisor
    | 0b10#2 => some .user
    | _ => none

/-- The 64-bit-addressing enable of a mode (R56). -/
def wideIn (st : Word) : Mode → Bool
  | .kernel => statusKX st
  | .supervisor => statusSX st
  | .user => statusUX st

/-- `Is64` (R56). -/
def is64 (st : Word) : Bool :=
  match modeOf st with
  | some m => wideIn st m
  | none => false

/-- `InterruptDue()` (R481). -/
def interruptDue (s : State) : Bool :=
  decide (causeIP s.cop0.cause &&& statusIM s.cop0.status ≠ 0#8) && statusIE s.cop0.status
    && !statusEXL s.cop0.status && !statusERL s.cop0.status

/-- The signed-overflow test of an addition: equal operand signs, and a result of the other sign (R200). -/
def addOverflows {w : Nat} (a b : BitVec w) : Bool := (a.msb == b.msb) && ((a + b).msb != a.msb)

/-- The signed-overflow test of a subtraction: different operand signs, and a result whose sign is not that of the first
operand (R200). -/
def subOverflows {w : Nat} (a b : BitVec w) : Bool := (a.msb != b.msb) && ((a - b).msb != a.msb)

end Sys2Proof.Machine
end

