-- ==== Sys2Proof/Machine/Translate.lean ====
section
/-! DEFINITION. Address translation (20_memory.md R100 to R115): segments, the TLB lookup, failure kinds. It reads Status,
EntryHi.ASID and the TLB, and writes `tlb_error` alone, on failure (R112, R113). -/

namespace Sys2Proof.Machine

/-- The access kind given to `Translate` (R100); a fetch is a load. -/
inductive Access where
  | load
  | store
  deriving DecidableEq, Repr

/-- What a segment does with an address (R103, R104). -/
inductive Segment where
  | disallowed
  | direct (base : VAddr)
  | xkphys
  | mapped
  deriving DecidableEq, Repr

/-- `Ok(pa)`, `Fail(k)`, or the halt of R55. -/
inductive Xlate where
  | ok (pa : PAddr)
  | fail (k : TlbFail)
  | undefinedMode
  deriving DecidableEq, Repr

/-- Where kseg0 and ckseg0 start. -/
def kseg0Base : VAddr := 0xFFFFFFFF80000000#64

/-- Where kseg1 and ckseg1 start. -/
def kseg1Base : VAddr := 0xFFFFFFFFA0000000#64

/-- The segments in 32-bit addressing, by `a[31:29]` (R103). -/
def seg32 (m : Mode) (a : Word) : Segment :=
  match a.extractLsb' 29 3 with
  | 0b100#3 => match m with
    | .kernel => .direct kseg0Base
    | .supervisor => .disallowed
    | .user => .disallowed
  | 0b101#3 => match m with
    | .kernel => .direct kseg1Base
    | .supervisor => .disallowed
    | .user => .disallowed
  | 0b110#3 => match m with
    | .kernel => .mapped
    | .supervisor => .mapped
    | .user => .disallowed
  | 0b111#3 => match m with
    | .kernel => .mapped
    | .supervisor => .disallowed
    | .user => .disallowed
  | _ => .mapped

/-- The kernel's segments in 64-bit addressing (R104, first column). -/
def seg64Kernel (va : VAddr) : Segment :=
  if va ≤ 0x000000FFFFFFFFFF#64 then .mapped
  else if va ≤ 0x3FFFFFFFFFFFFFFF#64 then .disallowed
  else if va ≤ 0x400000FFFFFFFFFF#64 then .mapped
  else if va ≤ 0x7FFFFFFFFFFFFFFF#64 then .disallowed
  else if va ≤ 0xBFFFFFFFFFFFFFFF#64 then .xkphys
  else if va ≤ 0xC00000FF7FFFFFFF#64 then .mapped
  else if va ≤ 0xFFFFFFFF7FFFFFFF#64 then .disallowed
  else if va ≤ 0xFFFFFFFF9FFFFFFF#64 then .direct kseg0Base
  else if va ≤ 0xFFFFFFFFBFFFFFFF#64 then .direct kseg1Base
  else .mapped

/-- The supervisor's segments in 64-bit addressing (R104, second column). -/
def seg64Supervisor (va : VAddr) : Segment :=
  if va ≤ 0x000000FFFFFFFFFF#64 then .mapped
  else if va ≤ 0x3FFFFFFFFFFFFFFF#64 then .disallowed
  else if va ≤ 0x400000FFFFFFFFFF#64 then .mapped
  else if va ≤ 0xFFFFFFFFBFFFFFFF#64 then .disallowed
  else if va ≤ 0xFFFFFFFFDFFFFFFF#64 then .mapped
  else .disallowed

/-- The user's segments in 64-bit addressing (R104, third column). -/
def seg64User (va : VAddr) : Segment :=
  if va ≤ 0x000000FFFFFFFFFF#64 then .mapped else .disallowed

/-- The segments in 64-bit addressing (R104). -/
def seg64 (m : Mode) (va : VAddr) : Segment :=
  match m with
  | .kernel => seg64Kernel va
  | .supervisor => seg64Supervisor va
  | .user => seg64User va

/-- The address the lookup uses (R100, R102): all of `va`, or its low word sign-extended. -/
def effectiveVA (wide : Bool) (va : VAddr) : VAddr := if wide then va else sext 32 va

/-- The segment of an address (R100). -/
def segmentOf (wide : Bool) (m : Mode) (va : VAddr) : Segment :=
  if wide then seg64 m va else seg32 m (low32 va)

-- The fields of an address or of EntryHi (R39, R108).

/-- Bits 63:62. -/
def vaRegion (va : VAddr) : BitVec 2 := va.extractLsb' 62 2
/-- Bits 39:13. -/
def vaVpn2 (va : VAddr) : BitVec 27 := va.extractLsb' 13 27
/-- `EntryHi.ASID`, bits 7:0. -/
def hiAsid (h : DWord) : BitVec 8 := h.extractLsb' 0 8

/-- `MASK` zero-extended to 27 bits (R108). -/
def vpnMask (mask : BitVec 12) : BitVec 27 := mask.setWidth 27

/-- Entry `e` matches an address under an ASID (R108 a to d). -/
def TlbEntry.matches (e : TlbEntry) (asid : BitVec 8) (va : VAddr) : Bool :=
  e.initialized && (e.r == vaRegion va)
    && ((e.vpn2 &&& ~~~(vpnMask e.mask)) == (vaVpn2 va &&& ~~~(vpnMask e.mask)))
    && (e.g || (e.asid == asid))

/-- The first entry of a list that matches, with its index, counting from `i` (R108, R114). -/
def tlbScan (asid : BitVec 8) (va : VAddr) : List TlbEntry → Nat → Option (Nat × TlbEntry)
  | [], _ => none
  | e :: es, i => if e.matches asid va then some (i, e) else tlbScan asid va es (i + 1)

/-- The matching entry with the lowest index (R108, R114). -/
def tlbFind (tlb : Vector TlbEntry 32) (asid : BitVec 8) (va : VAddr) : Option (Nat × TlbEntry) :=
  tlbScan asid va tlb.toList 0

/-- `offmask` (R109): the page offset mask, as a 64-bit value. -/
def pageOffsetMask (mask : BitVec 12) : DWord := (mask.setWidth 64 <<< 12) ||| 0xFFF#64

/-- The address bit at the page-size boundary selects the odd half (R109). -/
def oddHalf (mask : BitVec 12) (va : VAddr) : Bool := va &&& (pageOffsetMask mask + 1#64) != 0#64

/-- The half of an entry an address selects (R109). -/
def TlbEntry.half (e : TlbEntry) (va : VAddr) : TlbHalf := if oddHalf e.mask va then e.odd else e.even

/-- The physical address (R111): the frame number shifted by 12, or-ed with the offset, low 32 bits. -/
def framePA (pfn : BitVec 24) (mask : BitVec 12) (va : VAddr) : PAddr :=
  ((pfn.setWidth 64 <<< 12) ||| (va &&& pageOffsetMask mask)).setWidth 32

/-- Validity, then write permission, then the address (R110, R111). -/
def tlbAccess (kind : Access) (e : TlbEntry) (va : VAddr) : Xlate :=
  if !(e.half va).v then .fail .invalid
  else if kind = .store && !(e.half va).d then .fail .modification
  else .ok (framePA (e.half va).pfn e.mask va)

/-- `Lookup(kind, eva)` (R108 to R111). -/
def tlbLookup (kind : Access) (tlb : Vector TlbEntry 32) (asid : BitVec 8) (va : VAddr) : Xlate :=
  match tlbFind tlb asid va with
  | none => .fail .miss
  | some (_, e) => tlbAccess kind e va

/-- xkphys: bits 58:32 must be zero (R106). -/
def xkphysPA (va : VAddr) : Xlate :=
  if va.extractLsb' 32 27 = 0#27 then .ok (va.setWidth 32) else .fail .disallowedAddress

/-- The unmapped-direct segments (R105). -/
def directPA (eva base : VAddr) : PAddr := (eva - base).setWidth 32

/-- What `Translate(kind, va)` answers in a known mode (R100). -/
def xlateIn (kind : Access) (va : VAddr) (m : Mode) (s : State) : Xlate :=
  match segmentOf (wideIn s.cop0.status m) m va with
  | .disallowed => .fail .disallowedAddress
  | .direct base => .ok (directPA (effectiveVA (wideIn s.cop0.status m) va) base)
  | .xkphys => xkphysPA va
  | .mapped =>
    tlbLookup kind s.tlb (hiAsid s.cop0.entryHi) (effectiveVA (wideIn s.cop0.status m) va)

/-- What `Translate(kind, va)` answers (R100). -/
def xlate (kind : Access) (va : VAddr) (s : State) : Xlate :=
  match modeOf s.cop0.status with
  | some m => xlateIn kind va m s
  | none => .undefinedMode

/-- `tlb_error` after a translation: the kind of a failure, unchanged otherwise (R29, R112). -/
def tlbErrorAfter (x : Xlate) (old : Option TlbFail) : Option TlbFail :=
  match x with
  | .fail k => some k
  | .ok _ => old
  | .undefinedMode => old

/-- `Translate(kind, va)`: its answer, and the state it leaves (R100, R112). -/
def State.translate (kind : Access) (va : VAddr) (s : State) : Xlate × State :=
  (xlate kind va s, { s with tlbError := tlbErrorAfter (xlate kind va s) s.tlbError })

end Sys2Proof.Machine
end

