-- ==== Sys2Proof/Machine/Ops.lean ====
section
/-! DEFINITION. The named operations every meaning is written over: general registers (10_state.md R20), taking an
exception and returning from one (60_exceptions.md R470 to R476, 45_cop0_tlb.md R414), the PC triple and the branch
operations (R26, 42_branch_jump.md R280 to R282), and the front half and the body of every load and store
(43_load_store.md R320, R335). -/

namespace Sys2Proof.Machine

-- General registers.

/-- `x[r]`; `x[0]` reads 0 (R20). -/
def State.readReg (s : State) (r : RegIdx) : DWord := if r = 0#5 then 0#64 else s.gpr[r.toNat]'r.isLt

/-- The register file with `x[r]` written; a write to `x[0]` is discarded (R20). -/
def writeGpr (g : Vector DWord 32) (r : RegIdx) (v : DWord) : Vector DWord 32 :=
  if r = 0#5 then g else g.set r.toNat v r.isLt

/-- `x[r] <- v`. -/
def State.writeReg (r : RegIdx) (v : DWord) (s : State) : State := { s with gpr := writeGpr s.gpr r v }

/-- `HI <- v` (R21). -/
def State.setHi (v : DWord) (s : State) : State := { s with hi := v }

/-- `LO <- v` (R21). -/
def State.setLo (v : DWord) (s : State) : State := { s with lo := v }

/-- `HI <- h` and `LO <- l` (R260). -/
def State.setHiLo (h l : DWord) (s : State) : State := { s with hi := h, lo := l }

-- Taking an exception.

/-- The closed list of exception kinds (R460); nothing raises `reservedInstruction` (R463). -/
inductive ExcKind where
  | interrupt
  | tlbModification
  | tlbLoad
  | tlbStore
  | addressErrorLoad
  | addressErrorStore
  | syscall
  | breakpoint
  | reservedInstruction
  | coprocessorUnusable
  | overflow
  | trap
  | floatingPoint
  deriving DecidableEq, Repr

/-- The value written to Cause.ExcCode (R460). -/
def ExcKind.code : ExcKind → BitVec 5
  | .interrupt => 0
  | .tlbModification => 1
  | .tlbLoad => 2
  | .tlbStore => 3
  | .addressErrorLoad => 4
  | .addressErrorStore => 5
  | .syscall => 8
  | .breakpoint => 9
  | .reservedInstruction => 10
  | .coprocessorUnusable => 11
  | .overflow => 12
  | .trap => 13
  | .floatingPoint => 15

/-- The refill vector is taken (R471): a TLB load or store exception, EXL clear before it, and `tlb_error` not INVALID. -/
def takesRefill (kind : ExcKind) (oldExl : Bool) (err : Option TlbFail) : Bool :=
  (decide (kind = .tlbLoad) || decide (kind = .tlbStore)) && !oldExl && decide (err ≠ some .invalid)

/-- The vector base (R471). -/
def vectorBase (st : Word) : VAddr := if statusBEV st then 0xFFFFFFFFBFC00200#64 else 0xFFFFFFFF80000000#64

/-- `Vector(kind, old_exl, wide)` (R471), with the Status and the `tlb_error` of the moment. -/
def excVector (kind : ExcKind) (oldExl wide : Bool) (st : Word) (err : Option TlbFail) : VAddr :=
  vectorBase st + (if takesRefill kind oldExl err then (if wide then 0x080#64 else 0x000#64) else 0x180#64)

/-- What `Raise` does to COP0 (R470): EXL, EPC and Cause.BD only when EXL was 0; ExcCode and CE always. -/
def Cop0.raise (kind : ExcKind) (cop : BitVec 2) (epcPc : VAddr) (inDs : Bool) (c : Cop0) : Cop0 :=
  if statusEXL c.status then { c with cause := causeWithCode kind.code cop c.cause }
  else
    { c with
      status := statusSetEXL c.status
      epc := if inDs then epcPc - 4#64 else epcPc
      cause := causeWithCode kind.code cop (causeWithBD inDs c.cause) }

/-- The handler's address for an exception taken in this state (R470, R471): EXL and the width are those before entry. -/
def State.handler (kind : ExcKind) (s : State) : VAddr :=
  excVector kind (statusEXL s.cop0.status) (is64 s.cop0.status) s.cop0.status s.tlbError

/-- `Raise(kind, cop, epc_pc, in_ds)` (R470): the one way an exception is taken. -/
def State.raise (kind : ExcKind) (cop : BitVec 2) (epcPc : VAddr) (inDs : Bool) (s : State) : State :=
  { s with
    cop0 := s.cop0.raise kind cop epcPc inDs
    pc := s.handler kind
    nextPC := s.handler kind + 4#64 }

/-- `raise K(cop)` inside an instruction (R8): the address is `oldPC`, the delay-slot bit is `cur_ds`. -/
def raiseHere (kind : ExcKind) (cop : BitVec 2) (s : State) : Result := .next (s.raise kind cop s.oldPC s.curDS)

/-- An instruction whose one effect is `x[dst] <- v` (R202). -/
def State.put (dst : RegIdx) (v : DWord) (s : State) : Result := .next (s.writeReg dst v)

/-- A checking form: Overflow instead of the result (R200). -/
def State.putChecked (overflows : Bool) (dst : RegIdx) (v : DWord) (s : State) : Result :=
  if overflows then raiseHere .overflow 0 s else s.put dst v

/-- A conditional trap (R380): Trap when the condition holds, no effect otherwise. -/
def State.trapIf (cond : Bool) (s : State) : Result := if cond then raiseHere .trap 0 s else .next s

/-- What `RecordFault(va)` does to COP0 (R116). -/
def Cop0.recordFault (va : VAddr) (c : Cop0) : Cop0 :=
  { c with
    badVAddr := va
    context := (c.context &&& 0xFFFFFFFFFF80000F#64) ||| ((va.extractLsb' 13 19).setWidth 64 <<< 4)
    xContext := (c.xContext &&& 0xFFFFFFFE0000000F#64) ||| ((vaVpn2 va).setWidth 64 <<< 4)
      ||| ((vaRegion va).setWidth 64 <<< 31)
    entryHi := (c.entryHi &&& 0x3FFFFF0000001FFF#64) ||| ((vaVpn2 va).setWidth 64 <<< 13)
      ||| ((vaRegion va).setWidth 64 <<< 62) }

/-- `RecordFault(va)` (R116), with the full 64-bit address. -/
def State.recordFault (va : VAddr) (s : State) : State := { s with cop0 := s.cop0.recordFault va }

-- Returning from an exception.

/-- Where ERET goes (R414): ErrorEPC when ERL is set, EPC otherwise. -/
def Cop0.eretTarget (c : Cop0) : VAddr := if statusERL c.status then c.errorEPC else c.epc

/-- Status after ERET (R414): ERL cleared when it was set, EXL otherwise. -/
def eretStatus (st : Word) : Word := if statusERL st then statusClearERL st else statusClearEXL st

/-- The return from an exception (R414, R476). -/
def State.returnFromException (s : State) : State :=
  { s with
    pc := s.cop0.eretTarget
    nextPC := s.cop0.eretTarget + 4#64
    cop0 := { s.cop0 with status := eretStatus s.cop0.status }
    llBit := false }

-- The PC triple.

/-- Step 6 of R26: the triple advances. -/
def State.advance (s : State) : State := { s with oldPC := s.pc, pc := s.nextPC, nextPC := s.nextPC + 4#64 }

/-- `Branch(cond, target)` (R280). -/
def State.branch (cond : Bool) (target : VAddr) (s : State) : State :=
  { s with delaySlot := true, nextPC := if cond then target else s.nextPC }

/-- `BranchLikely(cond, target)` (R281): a false condition skips the delay slot. -/
def State.branchLikely (cond : Bool) (target : VAddr) (s : State) : State :=
  { s with
    delaySlot := if cond then true else s.delaySlot
    pc := if cond then s.pc else s.nextPC
    nextPC := if cond then target else s.nextPC + 4#64 }

/-- `Link(r)` (R282). -/
def State.link (r : RegIdx) (s : State) : State := s.writeReg r s.nextPC

-- Loads and stores.

/-- The address-error kind of an access (R94). -/
def addressErrorOf : Access → ExcKind
  | .load => .addressErrorLoad
  | .store => .addressErrorStore

/-- `ExcOf(k, kind)` (R115); `none` is the cell that halts. -/
def excOf : TlbFail → Access → Option ExcKind
  | .miss, .load => some .tlbLoad
  | .miss, .store => some .tlbStore
  | .invalid, .load => some .tlbLoad
  | .invalid, .store => some .tlbStore
  | .modification, .load => none
  | .modification, .store => some .tlbModification
  | .disallowedAddress, .load => some .addressErrorLoad
  | .disallowedAddress, .store => some .addressErrorStore

/-- What the address phase of an access answers: a physical address, the state of an exception taken, or a halt. -/
inductive Located where
  | ok (pa : PAddr)
  | raised (s : State)
  | halted (f : Fault)
  deriving DecidableEq, Repr

/-- `RecordFault(va)`, then an exception at `epcPc` (R94, R116, R117). -/
def State.raiseAddress (kind : ExcKind) (va epcPc : VAddr) (s : State) : State :=
  (s.recordFault va).raise kind 0 epcPc s.curDS

/-- The address phase of every access (R117, R118): alignment when it applies, then translation; a failure is recorded
and raised at `epcPc`. -/
def locate (kind : Access) (w : Width) (checked : Bool) (va epcPc : VAddr) (s : State) : Located :=
  if checked && !aligned w va then .raised (s.raiseAddress (addressErrorOf kind) va epcPc)
  else
    match s.translate kind va with
    | (.ok pa, _) => .ok pa
    | (.fail k, t) =>
      match excOf k kind with
      | some e => .raised (t.raiseAddress e va epcPc)
      | none => .halted .tlbExceptionNoCase
    | (.undefinedMode, _) => .halted .undefinedMode

/-- The effective address of a load or store (R321). -/
def State.ea (base : RegIdx) (imm : BitVec 16) (s : State) : VAddr := effAddr (s.readReg base) imm

/-- `DataAddr(kind, n, checked)` (R320). -/
def dataAddr (kind : Access) (w : Width) (checked : Bool) (base : RegIdx) (imm : BitVec 16) (s : State) : Located :=
  locate kind w checked (s.ea base imm) s.oldPC s

/-- An instruction that goes on with the physical address, when `DataAddr` gives one (R320). -/
def withDataAddr (kind : Access) (w : Width) (checked : Bool) (base : RegIdx) (imm : BitVec 16) (s : State)
    (k : PAddr → Result) : Result :=
  match dataAddr kind w checked base imm s with
  | .ok pa => k pa
  | .raised t => .next t
  | .halted f => .fault f

/-- A load (R335): one read, then `x[rt]` takes the datum as `ext` extends it. -/
def State.load (w : Width) (checked : Bool) (rt base : RegIdx) (imm : BitVec 16) (ext : DWord → DWord) (s : State) :
    Result :=
  withDataAddr .load w checked base imm s fun pa =>
    .next ((s.memRead pa w).2.writeReg rt (ext (s.memRead pa w).1))

/-- A left or right load (R342): one read of the enclosing aligned datum; `merge` takes the address, the old register and
the datum. -/
def State.loadMerged (w : Width) (rt base : RegIdx) (imm : BitVec 16) (merge : VAddr → DWord → DWord → DWord)
    (s : State) : Result :=
  withDataAddr .load w false base imm s fun pa =>
    .next ((s.memRead (alignDown w pa) w).2.writeReg rt
      (merge (s.ea base imm) (s.readReg rt) (s.memRead (alignDown w pa) w).1))

/-- A store (R335): one write of the low bytes of `x[rt]`. -/
def State.store (w : Width) (checked : Bool) (rt base : RegIdx) (imm : BitVec 16) (s : State) : Result :=
  withDataAddr .store w checked base imm s fun pa => .next (s.memWrite pa w (s.readReg rt))

/-- A left or right store (R335, R342): one read of the enclosing aligned datum, one write of the merged datum. -/
def State.storeMerged (w : Width) (rt base : RegIdx) (imm : BitVec 16) (merge : VAddr → DWord → DWord → DWord)
    (s : State) : Result :=
  withDataAddr .store w false base imm s fun pa =>
    .next ((s.memRead (alignDown w pa) w).2.memWrite (alignDown w pa) w
      (merge (s.ea base imm) (s.memRead (alignDown w pa) w).1 (s.readReg rt)))

/-- The reservation opened by LL and LLD (R343, R345). -/
def State.openReservation (pa : PAddr) (s : State) : State :=
  { s with llBit := true, cop0 := { s.cop0 with llAddr := pa >>> 4 } }

/-- A load that opens the reservation (R345, R346). -/
def State.loadLinked (w : Width) (rt base : RegIdx) (imm : BitVec 16) (ext : DWord → DWord) (s : State) : Result :=
  withDataAddr .load w true base imm s fun pa =>
    .next (((s.memRead pa w).2.writeReg rt (ext (s.memRead pa w).1)).openReservation pa)

/-- The reservation closed (R347). -/
def State.closeReservation (s : State) : State := { s with llBit := false }

/-- A store made only while the reservation is held (R347, R348). -/
def State.storeIfLinked (pa : PAddr) (w : Width) (v : DWord) (s : State) : State :=
  if s.llBit then s.memWrite pa w v else s

/-- A conditional store (R347, R348): the data is read first, the report and the clearing come after. -/
def State.storeConditional (w : Width) (rt base : RegIdx) (imm : BitVec 16) (s : State) : Result :=
  withDataAddr .store w true base imm s fun pa =>
    .next (((s.storeIfLinked pa w (s.readReg rt)).writeReg rt (boolToDWord s.llBit)).closeReservation)

end Sys2Proof.Machine
end

