-- ==== Sys2Proof/Machine/Alu.lean ====
section
/-! DEFINITION. Integer arithmetic, logic, compare and shift (40_alu.md): one definition per instruction. -/

namespace Sys2Proof.Machine

/-- R206, ADD: add the low words of `rs` and `rt`, trap on signed overflow. -/
def execAdd (rd rs rt : RegIdx) (s : State) : Result :=
  s.putChecked (addOverflows (low32 (s.readReg rs)) (low32 (s.readReg rt)))
    rd (sext 32 (low32 (s.readReg rs) + low32 (s.readReg rt)))

/-- R207, ADDU: add the low words of `rs` and `rt`, never trap. -/
def execAddu (rd rs rt : RegIdx) (s : State) : Result :=
  s.put rd (sext 32 (low32 (s.readReg rs) + low32 (s.readReg rt)))

/-- R208, SUB: subtract the low word of `rt` from that of `rs`, trap on signed overflow. -/
def execSub (rd rs rt : RegIdx) (s : State) : Result :=
  s.putChecked (subOverflows (low32 (s.readReg rs)) (low32 (s.readReg rt)))
    rd (sext 32 (low32 (s.readReg rs) - low32 (s.readReg rt)))

/-- R209, SUBU: subtract low words, never trap. -/
def execSubu (rd rs rt : RegIdx) (s : State) : Result :=
  s.put rd (sext 32 (low32 (s.readReg rs) - low32 (s.readReg rt)))

/-- R210, ADDI: add the sign-extended immediate to the low word of `rs`, trap on signed overflow. -/
def execAddi (rt rs : RegIdx) (imm : BitVec 16) (s : State) : Result :=
  s.putChecked (addOverflows (low32 (s.readReg rs)) (low32 (simm imm)))
    rt (sext 32 (low32 (s.readReg rs) + low32 (simm imm)))

/-- R211, ADDIU: add the sign-extended immediate to the low word of `rs`, never trap. -/
def execAddiu (rt rs : RegIdx) (imm : BitVec 16) (s : State) : Result :=
  s.put rt (sext 32 (low32 (s.readReg rs) + low32 (simm imm)))

/-- R212, DADD: add the 64-bit registers, trap on signed overflow. -/
def execDadd (rd rs rt : RegIdx) (s : State) : Result :=
  s.putChecked (addOverflows (s.readReg rs) (s.readReg rt)) rd (s.readReg rs + s.readReg rt)

/-- R213, DADDU: add the 64-bit registers, never trap. -/
def execDaddu (rd rs rt : RegIdx) (s : State) : Result := s.put rd (s.readReg rs + s.readReg rt)

/-- R214, DSUB: subtract the 64-bit registers, trap on signed overflow. -/
def execDsub (rd rs rt : RegIdx) (s : State) : Result :=
  s.putChecked (subOverflows (s.readReg rs) (s.readReg rt)) rd (s.readReg rs - s.readReg rt)

/-- R215, DSUBU: subtract the 64-bit registers, never trap. -/
def execDsubu (rd rs rt : RegIdx) (s : State) : Result := s.put rd (s.readReg rs - s.readReg rt)

/-- R216, DADDI: add the sign-extended immediate to the 64-bit `rs`, trap on signed overflow. -/
def execDaddi (rt rs : RegIdx) (imm : BitVec 16) (s : State) : Result :=
  s.putChecked (addOverflows (s.readReg rs) (simm imm)) rt (s.readReg rs + simm imm)

/-- R217, DADDIU: add the sign-extended immediate to the 64-bit `rs`, never trap. -/
def execDaddiu (rt rs : RegIdx) (imm : BitVec 16) (s : State) : Result := s.put rt (s.readReg rs + simm imm)

/-- R218, AND: bitwise AND of two registers. -/
def execAnd (rd rs rt : RegIdx) (s : State) : Result := s.put rd (s.readReg rs &&& s.readReg rt)

/-- R219, OR: bitwise OR of two registers. -/
def execOr (rd rs rt : RegIdx) (s : State) : Result := s.put rd (s.readReg rs ||| s.readReg rt)

/-- R220, XOR: bitwise exclusive OR of two registers. -/
def execXor (rd rs rt : RegIdx) (s : State) : Result := s.put rd (s.readReg rs ^^^ s.readReg rt)

/-- R221, NOR: bitwise NOT of the OR of two registers. -/
def execNor (rd rs rt : RegIdx) (s : State) : Result := s.put rd (~~~(s.readReg rs ||| s.readReg rt))

/-- R222, ANDI: AND with the zero-extended immediate. -/
def execAndi (rt rs : RegIdx) (imm : BitVec 16) (s : State) : Result := s.put rt (s.readReg rs &&& zimm imm)

/-- R223, ORI: OR with the zero-extended immediate. -/
def execOri (rt rs : RegIdx) (imm : BitVec 16) (s : State) : Result := s.put rt (s.readReg rs ||| zimm imm)

/-- R224, XORI: exclusive OR with the zero-extended immediate. -/
def execXori (rt rs : RegIdx) (imm : BitVec 16) (s : State) : Result := s.put rt (s.readReg rs ^^^ zimm imm)

/-- R225, LUI: load the immediate into bits 31:16, sign-extend. -/
def execLui (rt : RegIdx) (imm : BitVec 16) (s : State) : Result := s.put rt (upperImm imm)

/-- R226, SLT: set `rd` to 1 if `rs` is less than `rt`, signed 64-bit. -/
def execSlt (rd rs rt : RegIdx) (s : State) : Result := s.put rd (boolToDWord ((s.readReg rs).slt (s.readReg rt)))

/-- R227, SLTU: set `rd` to 1 if `rs` is less than `rt`, unsigned 64-bit. -/
def execSltu (rd rs rt : RegIdx) (s : State) : Result := s.put rd (boolToDWord ((s.readReg rs).ult (s.readReg rt)))

/-- R228, SLTI: set `rt` to 1 if `rs` is less than the sign-extended immediate, signed. -/
def execSlti (rt rs : RegIdx) (imm : BitVec 16) (s : State) : Result :=
  s.put rt (boolToDWord ((s.readReg rs).slt (simm imm)))

/-- R229, SLTIU: set `rt` to 1 if `rs` is less than the sign-extended immediate, compared unsigned. -/
def execSltiu (rt rs : RegIdx) (imm : BitVec 16) (s : State) : Result :=
  s.put rt (boolToDWord ((s.readReg rs).ult (simm imm)))

/-- R230, SLL: shift the low word of `rt` left by `sa`, sign-extend. -/
def execSll (rd rt : RegIdx) (sa : BitVec 5) (s : State) : Result :=
  s.put rd (sext 32 (low32 (s.readReg rt) <<< saAmount sa))

/-- R231, SRL: shift the low word of `rt` right by `sa`, zero fill, sign-extend. -/
def execSrl (rd rt : RegIdx) (sa : BitVec 5) (s : State) : Result :=
  s.put rd (sext 32 (low32 (s.readReg rt) >>> saAmount sa))

/-- R232, SRA: shift `rt` right arithmetically by `sa`, keep the low word, sign-extend (the shift is applied to all
64 bits). -/
def execSra (rd rt : RegIdx) (sa : BitVec 5) (s : State) : Result :=
  s.put rd (sext 32 ((s.readReg rt).sshiftRight (saAmount sa)))

/-- R233, SLLV: shift the low word of `rt` left by the low 5 bits of `rs`. -/
def execSllv (rd rt rs : RegIdx) (s : State) : Result :=
  s.put rd (sext 32 (low32 (s.readReg rt) <<< varAmount5 (s.readReg rs)))

/-- R234, SRLV: shift the low word of `rt` right by the low 5 bits of `rs`, zero fill. -/
def execSrlv (rd rt rs : RegIdx) (s : State) : Result :=
  s.put rd (sext 32 (low32 (s.readReg rt) >>> varAmount5 (s.readReg rs)))

/-- R235, SRAV: shift `rt` right arithmetically by the low 5 bits of `rs`, keep the low word (the shift is applied
to all 64 bits). -/
def execSrav (rd rt rs : RegIdx) (s : State) : Result :=
  s.put rd (sext 32 ((s.readReg rt).sshiftRight (varAmount5 (s.readReg rs))))

/-- R236, DSLL: shift `rt` left by `sa` (0 to 31), 64-bit. -/
def execDsll (rd rt : RegIdx) (sa : BitVec 5) (s : State) : Result := s.put rd (s.readReg rt <<< saAmount sa)

/-- R237, DSRL: shift `rt` right by `sa` (0 to 31), zero fill, 64-bit. -/
def execDsrl (rd rt : RegIdx) (sa : BitVec 5) (s : State) : Result := s.put rd (s.readReg rt >>> saAmount sa)

/-- R238, DSRA: shift `rt` right arithmetically by `sa` (0 to 31), 64-bit. -/
def execDsra (rd rt : RegIdx) (sa : BitVec 5) (s : State) : Result :=
  s.put rd ((s.readReg rt).sshiftRight (saAmount sa))

/-- R239, DSLLV: shift `rt` left by the low 6 bits of `rs`, 64-bit. -/
def execDsllv (rd rt rs : RegIdx) (s : State) : Result := s.put rd (s.readReg rt <<< varAmount6 (s.readReg rs))

/-- R240, DSRLV: shift `rt` right by the low 6 bits of `rs`, zero fill, 64-bit. -/
def execDsrlv (rd rt rs : RegIdx) (s : State) : Result := s.put rd (s.readReg rt >>> varAmount6 (s.readReg rs))

/-- R241, DSRAV: shift `rt` right arithmetically by the low 6 bits of `rs`, 64-bit. -/
def execDsrav (rd rt rs : RegIdx) (s : State) : Result :=
  s.put rd ((s.readReg rt).sshiftRight (varAmount6 (s.readReg rs)))

/-- R242, DSLL32: shift `rt` left by `sa + 32` (32 to 63), 64-bit. -/
def execDsll32 (rd rt : RegIdx) (sa : BitVec 5) (s : State) : Result := s.put rd (s.readReg rt <<< saAmount32 sa)

/-- R243, DSRL32: shift `rt` right by `sa + 32` (32 to 63), zero fill, 64-bit. -/
def execDsrl32 (rd rt : RegIdx) (sa : BitVec 5) (s : State) : Result := s.put rd (s.readReg rt >>> saAmount32 sa)

/-- R244, DSRA32: shift `rt` right arithmetically by `sa + 32` (32 to 63), 64-bit. -/
def execDsra32 (rd rt : RegIdx) (sa : BitVec 5) (s : State) : Result :=
  s.put rd ((s.readReg rt).sshiftRight (saAmount32 sa))

end Sys2Proof.Machine
end

