-- ==== Sys2Proof/Machine/Branch.lean ====
section
/-! DEFINITION. Jumps and branches (42_branch_jump.md). When a meaning runs, `oldPC` is the address of the branch,
`pc` that of its delay slot and `nextPC` what follows (10_state.md R26): one definition per instruction. -/

namespace Sys2Proof.Machine

/-- R286, J: jump within the current 256 MiB region. -/
def execJ (target : BitVec 26) (s : State) : Result := .next (s.branch true (jumpTarget s.oldPC target))

/-- R287, JAL: jump within the region and link in `x[31]`. -/
def execJal (target : BitVec 26) (s : State) : Result := .next ((s.link 31).branch true (jumpTarget s.oldPC target))

/-- R288, JR: jump to the address in `rs`. -/
def execJr (rs : RegIdx) (s : State) : Result := .next (s.branch true (s.readReg rs))

/-- R289, JALR: jump to the address in `rs` and link in `rd` (the target is read before the link is written). -/
def execJalr (rd rs : RegIdx) (s : State) : Result := .next ((s.link rd).branch true (s.readReg rs))

/-- R290, BEQ: branch if `rs` equals `rt`. -/
def execBeq (rs rt : RegIdx) (imm : BitVec 16) (s : State) : Result :=
  .next (s.branch (s.readReg rs == s.readReg rt) (branchTarget s.pc imm))

/-- R291, BNE: branch if `rs` differs from `rt`. -/
def execBne (rs rt : RegIdx) (imm : BitVec 16) (s : State) : Result :=
  .next (s.branch (s.readReg rs != s.readReg rt) (branchTarget s.pc imm))

/-- R292, BLEZ: branch if `rs` is less than or equal to zero, signed. -/
def execBlez (rs : RegIdx) (imm : BitVec 16) (s : State) : Result :=
  .next (s.branch ((s.readReg rs).sle 0) (branchTarget s.pc imm))

/-- R293, BGTZ: branch if `rs` is greater than zero, signed. -/
def execBgtz (rs : RegIdx) (imm : BitVec 16) (s : State) : Result :=
  .next (s.branch ((0#64).slt (s.readReg rs)) (branchTarget s.pc imm))

/-- R294, BEQL: branch likely if equal. -/
def execBeql (rs rt : RegIdx) (imm : BitVec 16) (s : State) : Result :=
  .next (s.branchLikely (s.readReg rs == s.readReg rt) (branchTarget s.pc imm))

/-- R295, BNEL: branch likely if not equal. -/
def execBnel (rs rt : RegIdx) (imm : BitVec 16) (s : State) : Result :=
  .next (s.branchLikely (s.readReg rs != s.readReg rt) (branchTarget s.pc imm))

/-- R296, BLEZL: branch likely if less than or equal to zero. -/
def execBlezl (rs : RegIdx) (imm : BitVec 16) (s : State) : Result :=
  .next (s.branchLikely ((s.readReg rs).sle 0) (branchTarget s.pc imm))

/-- R297, BGTZL: branch likely if greater than zero. -/
def execBgtzl (rs : RegIdx) (imm : BitVec 16) (s : State) : Result :=
  .next (s.branchLikely ((0#64).slt (s.readReg rs)) (branchTarget s.pc imm))

/-- R298, BLTZ: branch if `rs` is negative. -/
def execBltz (rs : RegIdx) (imm : BitVec 16) (s : State) : Result :=
  .next (s.branch ((s.readReg rs).slt 0) (branchTarget s.pc imm))

/-- R299, BGEZ: branch if `rs` is zero or positive. -/
def execBgez (rs : RegIdx) (imm : BitVec 16) (s : State) : Result :=
  .next (s.branch ((0#64).sle (s.readReg rs)) (branchTarget s.pc imm))

/-- R300, BLTZL: branch likely if negative. -/
def execBltzl (rs : RegIdx) (imm : BitVec 16) (s : State) : Result :=
  .next (s.branchLikely ((s.readReg rs).slt 0) (branchTarget s.pc imm))

/-- R301, BGEZL: branch likely if zero or positive. -/
def execBgezl (rs : RegIdx) (imm : BitVec 16) (s : State) : Result :=
  .next (s.branchLikely ((0#64).sle (s.readReg rs)) (branchTarget s.pc imm))

/-- R302, BLTZAL: branch if negative, and link (the condition is read before the link is written). -/
def execBltzal (rs : RegIdx) (imm : BitVec 16) (s : State) : Result :=
  .next ((s.link 31).branch ((s.readReg rs).slt 0) (branchTarget s.pc imm))

/-- R303, BGEZAL: branch if zero or positive, and link (the condition is read before the link is written). -/
def execBgezal (rs : RegIdx) (imm : BitVec 16) (s : State) : Result :=
  .next ((s.link 31).branch ((0#64).sle (s.readReg rs)) (branchTarget s.pc imm))

/-- R304, BLTZALL: branch likely if negative, and link (the condition is read before the link is written). -/
def execBltzall (rs : RegIdx) (imm : BitVec 16) (s : State) : Result :=
  .next ((s.link 31).branchLikely ((s.readReg rs).slt 0) (branchTarget s.pc imm))

/-- R305, BGEZALL: branch likely if zero or positive, and link (the condition is read before the link is written).
-/
def execBgezall (rs : RegIdx) (imm : BitVec 16) (s : State) : Result :=
  .next ((s.link 31).branchLikely ((0#64).sle (s.readReg rs)) (branchTarget s.pc imm))

end Sys2Proof.Machine
end

