-- ==== Sys2Proof/Machine/SystemOps.lean ====
section
/-! DEFINITION. The system coprocessor's operations: register access (45_cop0_tlb.md R407, R409), the TLB port (R405,
R406, R408), the draws (R32, R48, R412), the gate of R400, and what the environment does between steps
(60_exceptions.md R480, R490, 20_memory.md R136). -/

namespace Sys2Proof.Machine

/-- The COP0 registers that hold state (R30). -/
inductive Cop0Reg where
  | index
  | entryLo0
  | entryLo1
  | context
  | pageMask
  | wired
  | badVAddr
  | count
  | entryHi
  | compare
  | status
  | cause
  | epc
  | llAddr
  | xContext
  | errorEPC
  deriving DecidableEq, Repr

/-- What a COP0 register number names (R30): a register, Random (R32), or nothing the spec lists (R48). -/
inductive Cop0Number where
  | reg (r : Cop0Reg)
  | random
  | unlisted
  deriving DecidableEq, Repr

/-- The table of R30. -/
def cop0Number (n : RegIdx) : Cop0Number :=
  match n with
  | 0#5 => .reg .index
  | 1#5 => .random
  | 2#5 => .reg .entryLo0
  | 3#5 => .reg .entryLo1
  | 4#5 => .reg .context
  | 5#5 => .reg .pageMask
  | 6#5 => .reg .wired
  | 8#5 => .reg .badVAddr
  | 9#5 => .reg .count
  | 10#5 => .reg .entryHi
  | 11#5 => .reg .compare
  | 12#5 => .reg .status
  | 13#5 => .reg .cause
  | 14#5 => .reg .epc
  | 17#5 => .reg .llAddr
  | 20#5 => .reg .xContext
  | 30#5 => .reg .errorEPC
  | _ => .unlisted

/-- The write masks (R409). -/
def cop0Mask : Cop0Reg → DWord
  | .index => 0x000000008000003F#64
  | .entryLo0 => 0x000000003FFFFFFF#64
  | .entryLo1 => 0x000000003FFFFFFF#64
  | .context => 0xFFFFFFFFFF800000#64
  | .pageMask => 0x0000000001FFE000#64
  | .wired => 0x000000000000003F#64
  | .badVAddr => 0#64
  | .count => 0x00000000FFFFFFFF#64
  | .entryHi => 0xC00000FFFFFFE0FF#64
  | .compare => 0x00000000FFFFFFFF#64
  | .status => 0x00000000FF57FFFF#64
  | .cause => 0x0000000000000300#64
  | .epc => 0xFFFFFFFFFFFFFFFF#64
  | .llAddr => 0x00000000FFFFFFFF#64
  | .xContext => 0xFFFFFFFE00000000#64
  | .errorEPC => 0xFFFFFFFFFFFFFFFF#64

/-- The 64-bit value of a register: itself, or a 32-bit register sign-extended (R407). -/
def Cop0.read (r : Cop0Reg) (c : Cop0) : DWord :=
  match r with
  | .index => sext 32 c.index
  | .entryLo0 => c.entryLo0
  | .entryLo1 => c.entryLo1
  | .context => c.context
  | .pageMask => sext 32 c.pageMask
  | .wired => sext 32 c.wired
  | .badVAddr => c.badVAddr
  | .count => sext 32 c.count
  | .entryHi => c.entryHi
  | .compare => sext 32 c.compare
  | .status => sext 32 c.status
  | .cause => sext 32 c.cause
  | .epc => c.epc
  | .llAddr => sext 32 c.llAddr
  | .xContext => c.xContext
  | .errorEPC => c.errorEPC

/-- A 32-bit register under its mask (R409). -/
def masked32 (r : Cop0Reg) (old : Word) (v : DWord) : Word := maskedWrite (low32 (cop0Mask r)) old (low32 v)

/-- A 64-bit register under its mask (R409). -/
def masked64 (r : Cop0Reg) (old v : DWord) : DWord := maskedWrite (cop0Mask r) old v

/-- The COP0 registers with one written under its mask (R409); a write to Compare also clears IP[7] (R491). -/
def Cop0.write (r : Cop0Reg) (v : DWord) (c : Cop0) : Cop0 :=
  match r with
  | .index => { c with index := masked32 .index c.index v }
  | .entryLo0 => { c with entryLo0 := masked64 .entryLo0 c.entryLo0 v }
  | .entryLo1 => { c with entryLo1 := masked64 .entryLo1 c.entryLo1 v }
  | .context => { c with context := masked64 .context c.context v }
  | .pageMask => { c with pageMask := masked32 .pageMask c.pageMask v }
  | .wired => { c with wired := masked32 .wired c.wired v }
  | .badVAddr => { c with badVAddr := masked64 .badVAddr c.badVAddr v }
  | .count => { c with count := masked32 .count c.count v }
  | .entryHi => { c with entryHi := masked64 .entryHi c.entryHi v }
  | .compare => { c with compare := masked32 .compare c.compare v, cause := causeClearIP ipTimer c.cause }
  | .status => { c with status := masked32 .status c.status v }
  | .cause => { c with cause := masked32 .cause c.cause v }
  | .epc => { c with epc := masked64 .epc c.epc v }
  | .llAddr => { c with llAddr := masked32 .llAddr c.llAddr v }
  | .xContext => { c with xContext := masked64 .xContext c.xContext v }
  | .errorEPC => { c with errorEPC := masked64 .errorEPC c.errorEPC v }

/-- `Wired[5:0]` (R36). -/
def wiredField (c : Cop0) : BitVec 6 := c.wired.extractLsb' 0 6

/-- `Index[5:0]` (R31). -/
def indexField (c : Cop0) : BitVec 6 := c.index.extractLsb' 0 6

/-- The `d`-th draw from `{lo .. 31}`: a free value (R412, log 8). -/
def drawSlot (lo : Fin 32) (d : Nat) : Fin 32 :=
  ⟨lo.val + Config.freeIndex d % (32 - lo.val), by
    have h := Nat.mod_lt (Config.freeIndex d) (show 0 < 32 - lo.val by omega)
    omega⟩

/-- A 6-bit index as a TLB entry number; `none` above 31 (R410 to R412). -/
def tlbSlot (i : BitVec 6) : Option (Fin 32) := if h : i.toNat < 32 then some ⟨i.toNat, h⟩ else none

/-- What a move from Random gives (R32): a draw from `{Wired .. 31}`, or from `{0 .. 63}` when Wired is above 31. -/
def randomValue (c : Cop0) (d : Nat) : DWord :=
  match tlbSlot (wiredField c) with
  | some lo => BitVec.ofNat 64 (drawSlot lo d).val
  | none => BitVec.ofNat 64 (Config.freeIndex d % 64)

/-- The value of `C0Read(n)` (R407). -/
def State.cop0Value (n : RegIdx) (s : State) : DWord :=
  match cop0Number n with
  | .reg r => s.cop0.read r
  | .random => randomValue s.cop0 s.draws
  | .unlisted => Config.freeWord s.draws

/-- How many draws have been made after `C0Read(n)`. -/
def drawsAfterRead (n : RegIdx) (d : Nat) : Nat :=
  match cop0Number n with
  | .reg _ => d
  | .random => d + 1
  | .unlisted => d + 1

/-- The state after `C0Read(n)`: no register changes (R407). -/
def State.afterCop0Read (n : RegIdx) (s : State) : State := { s with draws := drawsAfterRead n s.draws }

/-- `C0Write(n, v)` (R409). -/
def State.cop0Write (n : RegIdx) (v : DWord) (s : State) : Result :=
  match cop0Number n with
  | .reg r => .next { s with cop0 := s.cop0.write r v }
  | .random => .next s
  | .unlisted =>
    match s.params.unlistedWrite with
    | .halt => .fault (.unlistedCop0Write n)
    | .ignore => .next s

/-- The gate of R400 closes: `P_COP0_GATE`, not kernel mode, and CU0 clear. -/
def cop0Gated (s : State) : Bool :=
  s.params.cop0Gate && decide (modeOf s.cop0.status ≠ some .kernel) && !statusCU0 s.cop0.status

/-- A COP0 instruction past its gate (R400). -/
def withCop0 (s : State) (k : Result) : Result :=
  if cop0Gated s then raiseHere .coprocessorUnusable 0 s else k

-- The TLB port.

/-- A half-page descriptor as EntryLo0 or EntryLo1 holds it (R33, R405). -/
def entryLoOf (h : TlbHalf) (g : Bool) : DWord :=
  0#34 ++ h.pfn ++ h.c ++ BitVec.ofBool h.d ++ BitVec.ofBool h.v ++ BitVec.ofBool g

/-- The half-page descriptor an EntryLo register holds (R33, R406). -/
def halfOf (lo : DWord) : TlbHalf where
  pfn := lo.extractLsb' 6 24
  c := lo.extractLsb' 3 3
  d := lo.getLsbD 2
  v := lo.getLsbD 1

/-- `PageMask[24:13]` (R35). -/
def maskField (p : Word) : BitVec 12 := p.extractLsb' 13 12

/-- The entry `TlbWrite` makes of the staging registers (R406). -/
def Cop0.stagedEntry (c : Cop0) : TlbEntry where
  initialized := true
  r := vaRegion c.entryHi
  vpn2 := vaVpn2 c.entryHi &&& ~~~(vpnMask (maskField c.pageMask))
  asid := hiAsid c.entryHi
  g := c.entryLo0.getLsbD 0 && c.entryLo1.getLsbD 0
  mask := maskField c.pageMask
  even := halfOf c.entryLo0
  odd := halfOf c.entryLo1

/-- The staging registers after `TlbRead` of an entry (R405). -/
def Cop0.stage (e : TlbEntry) (c : Cop0) : Cop0 :=
  { c with
    entryHi := e.r ++ 0#22 ++ e.vpn2 ++ 0#5 ++ e.asid
    pageMask := 0#7 ++ e.mask ++ 0#13
    entryLo0 := entryLoOf e.even e.g
    entryLo1 := entryLoOf e.odd e.g }

/-- `TlbRead(i)` (R405). -/
def State.tlbRead (i : Fin 32) (s : State) : State := { s with cop0 := s.cop0.stage (s.tlb[i.val]'i.isLt) }

/-- `TlbWrite(i)` (R406). -/
def State.tlbWrite (i : Fin 32) (s : State) : State := { s with tlb := s.tlb.set i.val s.cop0.stagedEntry i.isLt }

/-- Index after `TlbProbe()` (R408): the lowest matching entry, or P set and the field 0. -/
def probeIndex (tlb : Vector TlbEntry 32) (entryHi : DWord) : Word :=
  match tlbFind tlb (hiAsid entryHi) entryHi with
  | some (i, _) => BitVec.ofNat 32 i
  | none => 0x80000000#32

/-- `TlbProbe()` (R408). -/
def State.tlbProbe (s : State) : State :=
  { s with cop0 := { s.cop0 with index := probeIndex s.tlb s.cop0.entryHi } }

/-- TLBWR past its gate (R412): the index is a draw from `{Wired .. 31}`. -/
def State.tlbWriteRandom (s : State) : Result :=
  match tlbSlot (wiredField s.cop0) with
  | some lo => .next { s.tlbWrite (drawSlot lo s.draws) with draws := s.draws + 1 }
  | none => .fault (.tlbIndexOutOfRange (wiredField s.cop0))

/-- TLBWI past its gate (R411). -/
def State.tlbWriteIndexed (s : State) : Result :=
  match tlbSlot (indexField s.cop0) with
  | some i => .next (s.tlbWrite i)
  | none => .fault (.tlbIndexOutOfRange (indexField s.cop0))

/-- TLBR past its gate (R410). -/
def State.tlbReadIndexed (s : State) : Result :=
  match tlbSlot (indexField s.cop0) with
  | some i => .next (s.tlbRead i)
  | none => .fault (.tlbIndexOutOfRange (indexField s.cop0))

-- The environment, between steps.

/-- `TimerTick()` on COP0 (R490): the comparison is on the incremented Count. -/
def Cop0.tick (c : Cop0) : Cop0 :=
  { c with
    count := c.count + 1#32
    cause := if c.count + 1#32 = c.compare then causeSetIP ipTimer c.cause else c.cause }

/-- What an event does to COP0 (R480, R490). -/
def Cop0.event (e : EnvEvent) (c : Cop0) : Cop0 :=
  match e with
  | .irqSet n => { c with cause := causeSetIP n.bit c.cause }
  | .irqClear n => { c with cause := causeClearIP n.bit c.cause }
  | .timerTick => c.tick
  | .busWrite _ _ => c

/-- What an event does to the bytes behind the port (R136). -/
def State.memAfterEvent (e : EnvEvent) (s : State) : Memory :=
  match e with
  | .busWrite pa b => s.memAfterWrite pa .byte (b.setWidth 64)
  | .irqSet _ => s.mem
  | .irqClear _ => s.mem
  | .timerTick => s.mem

/-- One event of the environment (R10). -/
def State.applyEvent (e : EnvEvent) (s : State) : State :=
  { s with cop0 := s.cop0.event e, mem := s.memAfterEvent e }

/-- The events of one gap between steps, in order. -/
def State.applyEvents : List EnvEvent → State → State
  | [], s => s
  | e :: es, s => State.applyEvents es (s.applyEvent e)

/-- The next gap's events arrive (log 9); none when the schedule has run out. -/
def State.arrive (s : State) : State :=
  match s.schedule with
  | [] => s
  | es :: rest => { s.applyEvents es with schedule := rest }

end Sys2Proof.Machine
end

