-- ==== Sys2Proof/Machine/Cop0.lean ====
section
/-! DEFINITION. The system coprocessor: moves, TLB instructions, ERET (45_cop0_tlb.md): one definition per
instruction. -/

namespace Sys2Proof.Machine

/-- R401, MFC0: move the low word of COP0 register `rd` to `rt`, sign-extended. -/
def execMfc0 (rt rd : RegIdx) (s : State) : Result :=
  withCop0 s (.next ((s.afterCop0Read rd).writeReg rt (sext 32 (s.cop0Value rd))))

/-- R402, DMFC0: move the 64-bit COP0 register `rd` to `rt`. -/
def execDmfc0 (rt rd : RegIdx) (s : State) : Result :=
  withCop0 s (.next ((s.afterCop0Read rd).writeReg rt (s.cop0Value rd)))

/-- R403, MTC0: move the low word of `rt`, sign-extended, to COP0 register `rd`. -/
def execMtc0 (rt rd : RegIdx) (s : State) : Result := withCop0 s (s.cop0Write rd (sext 32 (s.readReg rt)))

/-- R404, DMTC0: move the 64-bit `rt` to COP0 register `rd`. -/
def execDmtc0 (rt rd : RegIdx) (s : State) : Result := withCop0 s (s.cop0Write rd (s.readReg rt))

/-- R410, TLBR: read the TLB entry selected by `Index` into the staging registers. -/
def execTlbr (s : State) : Result := withCop0 s s.tlbReadIndexed

/-- R411, TLBWI: write the TLB entry selected by `Index` from the staging registers. -/
def execTlbwi (s : State) : Result := withCop0 s s.tlbWriteIndexed

/-- R412, TLBWR: write a TLB entry chosen at random between `Wired` and 31. -/
def execTlbwr (s : State) : Result := withCop0 s s.tlbWriteRandom

/-- R413, TLBP: probe the TLB for an entry matching `EntryHi`. -/
def execTlbp (s : State) : Result := withCop0 s (.next s.tlbProbe)

/-- R414, ERET: return from exception or error level. -/
def execEret (s : State) : Result := withCop0 s (.next s.returnFromException)

end Sys2Proof.Machine
end

