-- ==== Sys2Proof/Syntax.lean ====
section
/-! DEFINITION. The instruction set as syntax: one constructor per row of the opcode table, its operands in the order of
the assembler syntax (30_encoding.md R175), each of the width of its field (R161, R162). No operand is an encoding: the
decoder has already chosen the row. The software codes of the traps, SYSCALL and BREAK are kept although the hardware
ignores them (R380). The six COP1 moves keep bits 10:0 of their word (`low`), because the FPU port is handed the whole
word (46_cop1_interface.md R431); every other bit that R171 calls ignored is dropped (log 15). -/

namespace Sys2Proof

/-- The 137 instructions of the decoder. -/
inductive Instr where
  -- Integer arithmetic, logic, compare, shift (40_alu.md)
  /-- R206: `ADD rd, rs, rt`. -/
  | add (rd rs rt : RegIdx)
  /-- R207: `ADDU rd, rs, rt`. -/
  | addu (rd rs rt : RegIdx)
  /-- R208: `SUB rd, rs, rt`. -/
  | sub (rd rs rt : RegIdx)
  /-- R209: `SUBU rd, rs, rt`. -/
  | subu (rd rs rt : RegIdx)
  /-- R210: `ADDI rt, rs, imm`. -/
  | addi (rt rs : RegIdx) (imm : BitVec 16)
  /-- R211: `ADDIU rt, rs, imm`. -/
  | addiu (rt rs : RegIdx) (imm : BitVec 16)
  /-- R212: `DADD rd, rs, rt`. -/
  | dadd (rd rs rt : RegIdx)
  /-- R213: `DADDU rd, rs, rt`. -/
  | daddu (rd rs rt : RegIdx)
  /-- R214: `DSUB rd, rs, rt`. -/
  | dsub (rd rs rt : RegIdx)
  /-- R215: `DSUBU rd, rs, rt`. -/
  | dsubu (rd rs rt : RegIdx)
  /-- R216: `DADDI rt, rs, imm`. -/
  | daddi (rt rs : RegIdx) (imm : BitVec 16)
  /-- R217: `DADDIU rt, rs, imm`. -/
  | daddiu (rt rs : RegIdx) (imm : BitVec 16)
  /-- R218: `AND rd, rs, rt`. -/
  | and (rd rs rt : RegIdx)
  /-- R219: `OR rd, rs, rt`. -/
  | or (rd rs rt : RegIdx)
  /-- R220: `XOR rd, rs, rt`. -/
  | xor (rd rs rt : RegIdx)
  /-- R221: `NOR rd, rs, rt`. -/
  | nor (rd rs rt : RegIdx)
  /-- R222: `ANDI rt, rs, imm`. -/
  | andi (rt rs : RegIdx) (imm : BitVec 16)
  /-- R223: `ORI rt, rs, imm`. -/
  | ori (rt rs : RegIdx) (imm : BitVec 16)
  /-- R224: `XORI rt, rs, imm`. -/
  | xori (rt rs : RegIdx) (imm : BitVec 16)
  /-- R225: `LUI rt, imm`. -/
  | lui (rt : RegIdx) (imm : BitVec 16)
  /-- R226: `SLT rd, rs, rt`. -/
  | slt (rd rs rt : RegIdx)
  /-- R227: `SLTU rd, rs, rt`. -/
  | sltu (rd rs rt : RegIdx)
  /-- R228: `SLTI rt, rs, imm`. -/
  | slti (rt rs : RegIdx) (imm : BitVec 16)
  /-- R229: `SLTIU rt, rs, imm`. -/
  | sltiu (rt rs : RegIdx) (imm : BitVec 16)
  /-- R230: `SLL rd, rt, sa`. -/
  | sll (rd rt : RegIdx) (sa : BitVec 5)
  /-- R231: `SRL rd, rt, sa`. -/
  | srl (rd rt : RegIdx) (sa : BitVec 5)
  /-- R232: `SRA rd, rt, sa`. -/
  | sra (rd rt : RegIdx) (sa : BitVec 5)
  /-- R233: `SLLV rd, rt, rs`. -/
  | sllv (rd rt rs : RegIdx)
  /-- R234: `SRLV rd, rt, rs`. -/
  | srlv (rd rt rs : RegIdx)
  /-- R235: `SRAV rd, rt, rs`. -/
  | srav (rd rt rs : RegIdx)
  /-- R236: `DSLL rd, rt, sa`. -/
  | dsll (rd rt : RegIdx) (sa : BitVec 5)
  /-- R237: `DSRL rd, rt, sa`. -/
  | dsrl (rd rt : RegIdx) (sa : BitVec 5)
  /-- R238: `DSRA rd, rt, sa`. -/
  | dsra (rd rt : RegIdx) (sa : BitVec 5)
  /-- R239: `DSLLV rd, rt, rs`. -/
  | dsllv (rd rt rs : RegIdx)
  /-- R240: `DSRLV rd, rt, rs`. -/
  | dsrlv (rd rt rs : RegIdx)
  /-- R241: `DSRAV rd, rt, rs`. -/
  | dsrav (rd rt rs : RegIdx)
  /-- R242: `DSLL32 rd, rt, sa`. -/
  | dsll32 (rd rt : RegIdx) (sa : BitVec 5)
  /-- R243: `DSRL32 rd, rt, sa`. -/
  | dsrl32 (rd rt : RegIdx) (sa : BitVec 5)
  /-- R244: `DSRA32 rd, rt, sa`. -/
  | dsra32 (rd rt : RegIdx) (sa : BitVec 5)
  -- Multiply, divide, HI and LO (41_muldiv.md)
  /-- R262: `MULT rs, rt`. -/
  | mult (rs rt : RegIdx)
  /-- R263: `MULTU rs, rt`. -/
  | multu (rs rt : RegIdx)
  /-- R264: `DIV rs, rt`. -/
  | div (rs rt : RegIdx)
  /-- R265: `DIVU rs, rt`. -/
  | divu (rs rt : RegIdx)
  /-- R266: `DMULT rs, rt`. -/
  | dmult (rs rt : RegIdx)
  /-- R267: `DMULTU rs, rt`. -/
  | dmultu (rs rt : RegIdx)
  /-- R268: `DDIV rs, rt`. -/
  | ddiv (rs rt : RegIdx)
  /-- R269: `DDIVU rs, rt`. -/
  | ddivu (rs rt : RegIdx)
  /-- R270: `MFHI rd`. -/
  | mfhi (rd : RegIdx)
  /-- R271: `MTHI rs`. -/
  | mthi (rs : RegIdx)
  /-- R272: `MFLO rd`. -/
  | mflo (rd : RegIdx)
  /-- R273: `MTLO rs`. -/
  | mtlo (rs : RegIdx)
  -- Jumps and branches (42_branch_jump.md)
  /-- R286: `J target`. -/
  | j (target : BitVec 26)
  /-- R287: `JAL target`. -/
  | jal (target : BitVec 26)
  /-- R288: `JR rs`. -/
  | jr (rs : RegIdx)
  /-- R289: `JALR rd, rs`. -/
  | jalr (rd rs : RegIdx)
  /-- R290: `BEQ rs, rt, offset`. -/
  | beq (rs rt : RegIdx) (imm : BitVec 16)
  /-- R291: `BNE rs, rt, offset`. -/
  | bne (rs rt : RegIdx) (imm : BitVec 16)
  /-- R292: `BLEZ rs, offset`. -/
  | blez (rs : RegIdx) (imm : BitVec 16)
  /-- R293: `BGTZ rs, offset`. -/
  | bgtz (rs : RegIdx) (imm : BitVec 16)
  /-- R294: `BEQL rs, rt, offset`. -/
  | beql (rs rt : RegIdx) (imm : BitVec 16)
  /-- R295: `BNEL rs, rt, offset`. -/
  | bnel (rs rt : RegIdx) (imm : BitVec 16)
  /-- R296: `BLEZL rs, offset`. -/
  | blezl (rs : RegIdx) (imm : BitVec 16)
  /-- R297: `BGTZL rs, offset`. -/
  | bgtzl (rs : RegIdx) (imm : BitVec 16)
  /-- R298: `BLTZ rs, offset`. -/
  | bltz (rs : RegIdx) (imm : BitVec 16)
  /-- R299: `BGEZ rs, offset`. -/
  | bgez (rs : RegIdx) (imm : BitVec 16)
  /-- R300: `BLTZL rs, offset`. -/
  | bltzl (rs : RegIdx) (imm : BitVec 16)
  /-- R301: `BGEZL rs, offset`. -/
  | bgezl (rs : RegIdx) (imm : BitVec 16)
  /-- R302: `BLTZAL rs, offset`. -/
  | bltzal (rs : RegIdx) (imm : BitVec 16)
  /-- R303: `BGEZAL rs, offset`. -/
  | bgezal (rs : RegIdx) (imm : BitVec 16)
  /-- R304: `BLTZALL rs, offset`. -/
  | bltzall (rs : RegIdx) (imm : BitVec 16)
  /-- R305: `BGEZALL rs, offset`. -/
  | bgezall (rs : RegIdx) (imm : BitVec 16)
  -- Loads, stores, LL and SC, CACHE, SYNC (43_load_store.md)
  /-- R322: `LB rt, offset(base)`. -/
  | lb (rt base : RegIdx) (imm : BitVec 16)
  /-- R323: `LBU rt, offset(base)`. -/
  | lbu (rt base : RegIdx) (imm : BitVec 16)
  /-- R324: `LH rt, offset(base)`. -/
  | lh (rt base : RegIdx) (imm : BitVec 16)
  /-- R325: `LHU rt, offset(base)`. -/
  | lhu (rt base : RegIdx) (imm : BitVec 16)
  /-- R326: `LW rt, offset(base)`. -/
  | lw (rt base : RegIdx) (imm : BitVec 16)
  /-- R327: `LWU rt, offset(base)`. -/
  | lwu (rt base : RegIdx) (imm : BitVec 16)
  /-- R328: `LD rt, offset(base)`. -/
  | ld (rt base : RegIdx) (imm : BitVec 16)
  /-- R329: `LWL rt, offset(base)`. -/
  | lwl (rt base : RegIdx) (imm : BitVec 16)
  /-- R330: `LWR rt, offset(base)`. -/
  | lwr (rt base : RegIdx) (imm : BitVec 16)
  /-- R331: `LDL rt, offset(base)`. -/
  | ldl (rt base : RegIdx) (imm : BitVec 16)
  /-- R332: `LDR rt, offset(base)`. -/
  | ldr (rt base : RegIdx) (imm : BitVec 16)
  /-- R333: `SB rt, offset(base)`. -/
  | sb (rt base : RegIdx) (imm : BitVec 16)
  /-- R334: `SH rt, offset(base)`. -/
  | sh (rt base : RegIdx) (imm : BitVec 16)
  /-- R336: `SW rt, offset(base)`. -/
  | sw (rt base : RegIdx) (imm : BitVec 16)
  /-- R337: `SD rt, offset(base)`. -/
  | sd (rt base : RegIdx) (imm : BitVec 16)
  /-- R338: `SWL rt, offset(base)`. -/
  | swl (rt base : RegIdx) (imm : BitVec 16)
  /-- R339: `SWR rt, offset(base)`. -/
  | swr (rt base : RegIdx) (imm : BitVec 16)
  /-- R340: `SDL rt, offset(base)`. -/
  | sdl (rt base : RegIdx) (imm : BitVec 16)
  /-- R341: `SDR rt, offset(base)`. -/
  | sdr (rt base : RegIdx) (imm : BitVec 16)
  /-- R345: `LL rt, offset(base)`. -/
  | ll (rt base : RegIdx) (imm : BitVec 16)
  /-- R346: `LLD rt, offset(base)`. -/
  | lld (rt base : RegIdx) (imm : BitVec 16)
  /-- R347: `SC rt, offset(base)`. -/
  | sc (rt base : RegIdx) (imm : BitVec 16)
  /-- R348: `SCD rt, offset(base)`. -/
  | scd (rt base : RegIdx) (imm : BitVec 16)
  /-- R349: `CACHE op, offset(base)`. -/
  | cache (op : BitVec 5) (base : RegIdx) (imm : BitVec 16)
  /-- R350: `SYNC`. -/
  | sync
  -- Traps, SYSCALL, BREAK (44_trap_system.md)
  /-- R381: `TGE rs, rt`. -/
  | tge (rs rt : RegIdx) (code : BitVec 10)
  /-- R382: `TGEU rs, rt`. -/
  | tgeu (rs rt : RegIdx) (code : BitVec 10)
  /-- R383: `TLT rs, rt`. -/
  | tlt (rs rt : RegIdx) (code : BitVec 10)
  /-- R384: `TLTU rs, rt`. -/
  | tltu (rs rt : RegIdx) (code : BitVec 10)
  /-- R385: `TEQ rs, rt`. -/
  | teq (rs rt : RegIdx) (code : BitVec 10)
  /-- R386: `TNE rs, rt`. -/
  | tne (rs rt : RegIdx) (code : BitVec 10)
  /-- R387: `TGEI rs, imm`. -/
  | tgei (rs : RegIdx) (imm : BitVec 16)
  /-- R388: `TGEIU rs, imm`. -/
  | tgeiu (rs : RegIdx) (imm : BitVec 16)
  /-- R389: `TLTI rs, imm`. -/
  | tlti (rs : RegIdx) (imm : BitVec 16)
  /-- R390: `TLTIU rs, imm`. -/
  | tltiu (rs : RegIdx) (imm : BitVec 16)
  /-- R391: `TEQI rs, imm`. -/
  | teqi (rs : RegIdx) (imm : BitVec 16)
  /-- R392: `TNEI rs, imm`. -/
  | tnei (rs : RegIdx) (imm : BitVec 16)
  /-- R393: `SYSCALL`. -/
  | syscall (code : BitVec 20)
  /-- R394: `BREAK`. -/
  | brk (code : BitVec 20)
  -- System coprocessor (45_cop0_tlb.md)
  /-- R401: `MFC0 rt, rd`. -/
  | mfc0 (rt rd : RegIdx)
  /-- R402: `DMFC0 rt, rd`. -/
  | dmfc0 (rt rd : RegIdx)
  /-- R403: `MTC0 rt, rd`. -/
  | mtc0 (rt rd : RegIdx)
  /-- R404: `DMTC0 rt, rd`. -/
  | dmtc0 (rt rd : RegIdx)
  /-- R410: `TLBR`. -/
  | tlbr
  /-- R411: `TLBWI`. -/
  | tlbwi
  /-- R412: `TLBWR`. -/
  | tlbwr
  /-- R413: `TLBP`. -/
  | tlbp
  /-- R414: `ERET`. -/
  | eret
  -- Floating-point interface (46_cop1_interface.md)
  /-- R432: `MFC1 rt, fs`. -/
  | mfc1 (rt fs : RegIdx) (low : BitVec 11)
  /-- R433: `DMFC1 rt, fs`. -/
  | dmfc1 (rt fs : RegIdx) (low : BitVec 11)
  /-- R434: `CFC1 rt, fs`. -/
  | cfc1 (rt fs : RegIdx) (low : BitVec 11)
  /-- R435: `MTC1 rt, fs`. -/
  | mtc1 (rt fs : RegIdx) (low : BitVec 11)
  /-- R436: `DMTC1 rt, fs`. -/
  | dmtc1 (rt fs : RegIdx) (low : BitVec 11)
  /-- R437: `CTC1 rt, fs`. -/
  | ctc1 (rt fs : RegIdx) (low : BitVec 11)
  /-- R438: `BC1F offset`. -/
  | bc1f (imm : BitVec 16)
  /-- R439: `BC1T offset`. -/
  | bc1t (imm : BitVec 16)
  /-- R440: `BC1FL offset`. -/
  | bc1fl (imm : BitVec 16)
  /-- R441: `BC1TL offset`. -/
  | bc1tl (imm : BitVec 16)
  /-- R442: `LWC1 ft, offset(base)`. -/
  | lwc1 (ft base : RegIdx) (imm : BitVec 16)
  /-- R443: `LDC1 ft, offset(base)`. -/
  | ldc1 (ft base : RegIdx) (imm : BitVec 16)
  /-- R444: `SWC1 ft, offset(base)`. -/
  | swc1 (ft base : RegIdx) (imm : BitVec 16)
  /-- R445: `SDC1 ft, offset(base)`. -/
  | sdc1 (ft base : RegIdx) (imm : BitVec 16)
  /-- R448: `(floating-point operate, S format)` (COP1.S). -/
  | cop1S (copFn : BitVec 21)
  /-- R449: `(floating-point operate, D format)` (COP1.D). -/
  | cop1D (copFn : BitVec 21)
  /-- R450: `(floating-point operate, W format)` (COP1.W). -/
  | cop1W (copFn : BitVec 21)
  /-- R451: `(floating-point operate, L format)` (COP1.L). -/
  | cop1L (copFn : BitVec 21)
  deriving DecidableEq, Repr

/-- The instruction classes of R179. -/
inductive InstrClass where
  | alu
  | muldiv
  | branch
  | jump
  | load
  | store
  | llsc
  | cacheop
  | sync
  | trap
  | system
  | cop0
  | fpu
  | fpuBranch
  | fpuMem
  deriving DecidableEq, Repr

end Sys2Proof
end

