-- ==== Sys2Proof/Decode.lean ====
section
/-! DEFINITION. The decoder (30_encoding.md R160 to R174): field extraction, the two-level dispatch, total on every word
and on every list of bytes, refusing by name; and after it the encoder, written from the same tables, the table's rows
(mask and match), the classes (R179) and the block-terminator predicate (R178). Field positions and numbers are the
spec's [from general knowledge]. -/

namespace Sys2Proof

-- Field extraction (R162).

/-- Bits 31:26. -/
def opField (w : Word) : BitVec 6 := w.extractLsb' 26 6
/-- Bits 25:21. -/
def rsField (w : Word) : BitVec 5 := w.extractLsb' 21 5
/-- Bits 20:16. -/
def rtField (w : Word) : BitVec 5 := w.extractLsb' 16 5
/-- Bits 15:11. -/
def rdField (w : Word) : BitVec 5 := w.extractLsb' 11 5
/-- Bits 10:6. -/
def saField (w : Word) : BitVec 5 := w.extractLsb' 6 5
/-- Bits 5:0. -/
def functField (w : Word) : BitVec 6 := w.extractLsb' 0 6
/-- Bits 15:0. -/
def immField (w : Word) : BitVec 16 := w.extractLsb' 0 16
/-- Bits 25:0. -/
def targetField (w : Word) : BitVec 26 := w.extractLsb' 0 26
/-- Bits 15:6, the software code of the register traps (R161). -/
def code10Field (w : Word) : BitVec 10 := w.extractLsb' 6 10
/-- Bits 25:6, the software code of SYSCALL and BREAK (R161). -/
def code20Field (w : Word) : BitVec 20 := w.extractLsb' 6 20
/-- Bits 20:0, what a COP1 operate word carries to the FPU (R448 to R451). -/
def copFnField (w : Word) : BitVec 21 := w.extractLsb' 0 21
/-- Bits 10:0, which a COP1 move carries to the FPU inside the word (R431). -/
def lowField (w : Word) : BitVec 11 := w.extractLsb' 0 11

/-- Why bytes are not an instruction. The first seven are the spec's `Reserved` (R172), named by the table that has no
row; the last is a byte list shorter than a word. -/
inductive DecodeReject where
  /-- Level 1 has no row for this `op` (R165). -/
  | reservedOp (op : BitVec 6)
  /-- SPECIAL has no row for this `funct` (R166). -/
  | reservedSpecial (funct : BitVec 6)
  /-- REGIMM has no row for this `rt` (R167). -/
  | reservedRegimm (rt : BitVec 5)
  /-- COP0 has no row for this `rs` (R168). -/
  | reservedCop0 (rs : BitVec 5)
  /-- COP0 with bit 25 set has no row for this `funct` (R168). -/
  | reservedCop0Function (funct : BitVec 6)
  /-- COP1 has no row for this `rs` (R169). -/
  | reservedCop1 (rs : BitVec 5)
  /-- The COP1 branch class has no row for this `rt` (R169). -/
  | reservedBc1 (rt : BitVec 5)
  /-- Fewer than four bytes are left (R160: every instruction is four bytes). -/
  | truncated
  deriving DecidableEq, Repr

/-- SPECIAL, indexed by `funct` (R166). -/
def decodeSpecial (k : BitVec 6) (w : Word) : Except DecodeReject Instr :=
  match k with
  | 0x00#6 => .ok (.sll (rdField w) (rtField w) (saField w))
  | 0x02#6 => .ok (.srl (rdField w) (rtField w) (saField w))
  | 0x03#6 => .ok (.sra (rdField w) (rtField w) (saField w))
  | 0x04#6 => .ok (.sllv (rdField w) (rtField w) (rsField w))
  | 0x06#6 => .ok (.srlv (rdField w) (rtField w) (rsField w))
  | 0x07#6 => .ok (.srav (rdField w) (rtField w) (rsField w))
  | 0x08#6 => .ok (.jr (rsField w))
  | 0x09#6 => .ok (.jalr (rdField w) (rsField w))
  | 0x0C#6 => .ok (.syscall (code20Field w))
  | 0x0D#6 => .ok (.brk (code20Field w))
  | 0x0F#6 => .ok .sync
  | 0x10#6 => .ok (.mfhi (rdField w))
  | 0x11#6 => .ok (.mthi (rsField w))
  | 0x12#6 => .ok (.mflo (rdField w))
  | 0x13#6 => .ok (.mtlo (rsField w))
  | 0x14#6 => .ok (.dsllv (rdField w) (rtField w) (rsField w))
  | 0x16#6 => .ok (.dsrlv (rdField w) (rtField w) (rsField w))
  | 0x17#6 => .ok (.dsrav (rdField w) (rtField w) (rsField w))
  | 0x18#6 => .ok (.mult (rsField w) (rtField w))
  | 0x19#6 => .ok (.multu (rsField w) (rtField w))
  | 0x1A#6 => .ok (.div (rsField w) (rtField w))
  | 0x1B#6 => .ok (.divu (rsField w) (rtField w))
  | 0x1C#6 => .ok (.dmult (rsField w) (rtField w))
  | 0x1D#6 => .ok (.dmultu (rsField w) (rtField w))
  | 0x1E#6 => .ok (.ddiv (rsField w) (rtField w))
  | 0x1F#6 => .ok (.ddivu (rsField w) (rtField w))
  | 0x20#6 => .ok (.add (rdField w) (rsField w) (rtField w))
  | 0x21#6 => .ok (.addu (rdField w) (rsField w) (rtField w))
  | 0x22#6 => .ok (.sub (rdField w) (rsField w) (rtField w))
  | 0x23#6 => .ok (.subu (rdField w) (rsField w) (rtField w))
  | 0x24#6 => .ok (.and (rdField w) (rsField w) (rtField w))
  | 0x25#6 => .ok (.or (rdField w) (rsField w) (rtField w))
  | 0x26#6 => .ok (.xor (rdField w) (rsField w) (rtField w))
  | 0x27#6 => .ok (.nor (rdField w) (rsField w) (rtField w))
  | 0x2A#6 => .ok (.slt (rdField w) (rsField w) (rtField w))
  | 0x2B#6 => .ok (.sltu (rdField w) (rsField w) (rtField w))
  | 0x2C#6 => .ok (.dadd (rdField w) (rsField w) (rtField w))
  | 0x2D#6 => .ok (.daddu (rdField w) (rsField w) (rtField w))
  | 0x2E#6 => .ok (.dsub (rdField w) (rsField w) (rtField w))
  | 0x2F#6 => .ok (.dsubu (rdField w) (rsField w) (rtField w))
  | 0x30#6 => .ok (.tge (rsField w) (rtField w) (code10Field w))
  | 0x31#6 => .ok (.tgeu (rsField w) (rtField w) (code10Field w))
  | 0x32#6 => .ok (.tlt (rsField w) (rtField w) (code10Field w))
  | 0x33#6 => .ok (.tltu (rsField w) (rtField w) (code10Field w))
  | 0x34#6 => .ok (.teq (rsField w) (rtField w) (code10Field w))
  | 0x36#6 => .ok (.tne (rsField w) (rtField w) (code10Field w))
  | 0x38#6 => .ok (.dsll (rdField w) (rtField w) (saField w))
  | 0x3A#6 => .ok (.dsrl (rdField w) (rtField w) (saField w))
  | 0x3B#6 => .ok (.dsra (rdField w) (rtField w) (saField w))
  | 0x3C#6 => .ok (.dsll32 (rdField w) (rtField w) (saField w))
  | 0x3E#6 => .ok (.dsrl32 (rdField w) (rtField w) (saField w))
  | 0x3F#6 => .ok (.dsra32 (rdField w) (rtField w) (saField w))
  | f => .error (.reservedSpecial f)

/-- REGIMM, indexed by `rt` (R167). -/
def decodeRegimm (k : BitVec 5) (w : Word) : Except DecodeReject Instr :=
  match k with
  | 0x00#5 => .ok (.bltz (rsField w) (immField w))
  | 0x01#5 => .ok (.bgez (rsField w) (immField w))
  | 0x02#5 => .ok (.bltzl (rsField w) (immField w))
  | 0x03#5 => .ok (.bgezl (rsField w) (immField w))
  | 0x08#5 => .ok (.tgei (rsField w) (immField w))
  | 0x09#5 => .ok (.tgeiu (rsField w) (immField w))
  | 0x0A#5 => .ok (.tlti (rsField w) (immField w))
  | 0x0B#5 => .ok (.tltiu (rsField w) (immField w))
  | 0x0C#5 => .ok (.teqi (rsField w) (immField w))
  | 0x0E#5 => .ok (.tnei (rsField w) (immField w))
  | 0x10#5 => .ok (.bltzal (rsField w) (immField w))
  | 0x11#5 => .ok (.bgezal (rsField w) (immField w))
  | 0x12#5 => .ok (.bltzall (rsField w) (immField w))
  | 0x13#5 => .ok (.bgezall (rsField w) (immField w))
  | r => .error (.reservedRegimm r)

/-- COP0 with bit 25 set, indexed by `funct` (R168). -/
def decodeCop0Function (k : BitVec 6) : Except DecodeReject Instr :=
  match k with
  | 0x01#6 => .ok .tlbr
  | 0x02#6 => .ok .tlbwi
  | 0x06#6 => .ok .tlbwr
  | 0x08#6 => .ok .tlbp
  | 0x18#6 => .ok .eret
  | f => .error (.reservedCop0Function f)

/-- COP0, indexed by `rs`, and by `funct` when bit 25 is 1 (R168). -/
def decodeCop0 (k : BitVec 5) (w : Word) : Except DecodeReject Instr :=
  match k with
  | 0x00#5 => .ok (.mfc0 (rtField w) (rdField w))
  | 0x01#5 => .ok (.dmfc0 (rtField w) (rdField w))
  | 0x04#5 => .ok (.mtc0 (rtField w) (rdField w))
  | 0x05#5 => .ok (.dmtc0 (rtField w) (rdField w))
  | r => if w.getLsbD 25 then decodeCop0Function (functField w) else .error (.reservedCop0 r)

/-- The COP1 branch class, indexed by `rt` (R169). -/
def decodeBc1 (k : BitVec 5) (w : Word) : Except DecodeReject Instr :=
  match k with
  | 0x00#5 => .ok (.bc1f (immField w))
  | 0x01#5 => .ok (.bc1t (immField w))
  | 0x02#5 => .ok (.bc1fl (immField w))
  | 0x03#5 => .ok (.bc1tl (immField w))
  | r => .error (.reservedBc1 r)

/-- COP1, indexed by `rs` (R169). -/
def decodeCop1 (k : BitVec 5) (w : Word) : Except DecodeReject Instr :=
  match k with
  | 0x00#5 => .ok (.mfc1 (rtField w) (rdField w) (lowField w))
  | 0x01#5 => .ok (.dmfc1 (rtField w) (rdField w) (lowField w))
  | 0x02#5 => .ok (.cfc1 (rtField w) (rdField w) (lowField w))
  | 0x04#5 => .ok (.mtc1 (rtField w) (rdField w) (lowField w))
  | 0x05#5 => .ok (.dmtc1 (rtField w) (rdField w) (lowField w))
  | 0x06#5 => .ok (.ctc1 (rtField w) (rdField w) (lowField w))
  | 0x08#5 => decodeBc1 (rtField w) w
  | 0x10#5 => .ok (.cop1S (copFnField w))
  | 0x11#5 => .ok (.cop1D (copFnField w))
  | 0x14#5 => .ok (.cop1W (copFnField w))
  | 0x15#5 => .ok (.cop1L (copFnField w))
  | r => .error (.reservedCop1 r)

/-- Level 1, indexed by `op` (R165). -/
def decodeOp (k : BitVec 6) (w : Word) : Except DecodeReject Instr :=
  match k with
  | 0x00#6 => decodeSpecial (functField w) w
  | 0x01#6 => decodeRegimm (rtField w) w
  | 0x02#6 => .ok (.j (targetField w))
  | 0x03#6 => .ok (.jal (targetField w))
  | 0x04#6 => .ok (.beq (rsField w) (rtField w) (immField w))
  | 0x05#6 => .ok (.bne (rsField w) (rtField w) (immField w))
  | 0x06#6 => .ok (.blez (rsField w) (immField w))
  | 0x07#6 => .ok (.bgtz (rsField w) (immField w))
  | 0x08#6 => .ok (.addi (rtField w) (rsField w) (immField w))
  | 0x09#6 => .ok (.addiu (rtField w) (rsField w) (immField w))
  | 0x0A#6 => .ok (.slti (rtField w) (rsField w) (immField w))
  | 0x0B#6 => .ok (.sltiu (rtField w) (rsField w) (immField w))
  | 0x0C#6 => .ok (.andi (rtField w) (rsField w) (immField w))
  | 0x0D#6 => .ok (.ori (rtField w) (rsField w) (immField w))
  | 0x0E#6 => .ok (.xori (rtField w) (rsField w) (immField w))
  | 0x0F#6 => .ok (.lui (rtField w) (immField w))
  | 0x10#6 => decodeCop0 (rsField w) w
  | 0x11#6 => decodeCop1 (rsField w) w
  | 0x14#6 => .ok (.beql (rsField w) (rtField w) (immField w))
  | 0x15#6 => .ok (.bnel (rsField w) (rtField w) (immField w))
  | 0x16#6 => .ok (.blezl (rsField w) (immField w))
  | 0x17#6 => .ok (.bgtzl (rsField w) (immField w))
  | 0x18#6 => .ok (.daddi (rtField w) (rsField w) (immField w))
  | 0x19#6 => .ok (.daddiu (rtField w) (rsField w) (immField w))
  | 0x1A#6 => .ok (.ldl (rtField w) (rsField w) (immField w))
  | 0x1B#6 => .ok (.ldr (rtField w) (rsField w) (immField w))
  | 0x20#6 => .ok (.lb (rtField w) (rsField w) (immField w))
  | 0x21#6 => .ok (.lh (rtField w) (rsField w) (immField w))
  | 0x22#6 => .ok (.lwl (rtField w) (rsField w) (immField w))
  | 0x23#6 => .ok (.lw (rtField w) (rsField w) (immField w))
  | 0x24#6 => .ok (.lbu (rtField w) (rsField w) (immField w))
  | 0x25#6 => .ok (.lhu (rtField w) (rsField w) (immField w))
  | 0x26#6 => .ok (.lwr (rtField w) (rsField w) (immField w))
  | 0x27#6 => .ok (.lwu (rtField w) (rsField w) (immField w))
  | 0x28#6 => .ok (.sb (rtField w) (rsField w) (immField w))
  | 0x29#6 => .ok (.sh (rtField w) (rsField w) (immField w))
  | 0x2A#6 => .ok (.swl (rtField w) (rsField w) (immField w))
  | 0x2B#6 => .ok (.sw (rtField w) (rsField w) (immField w))
  | 0x2C#6 => .ok (.sdl (rtField w) (rsField w) (immField w))
  | 0x2D#6 => .ok (.sdr (rtField w) (rsField w) (immField w))
  | 0x2E#6 => .ok (.swr (rtField w) (rsField w) (immField w))
  | 0x2F#6 => .ok (.cache (rtField w) (rsField w) (immField w))
  | 0x30#6 => .ok (.ll (rtField w) (rsField w) (immField w))
  | 0x31#6 => .ok (.lwc1 (rtField w) (rsField w) (immField w))
  | 0x34#6 => .ok (.lld (rtField w) (rsField w) (immField w))
  | 0x35#6 => .ok (.ldc1 (rtField w) (rsField w) (immField w))
  | 0x37#6 => .ok (.ld (rtField w) (rsField w) (immField w))
  | 0x38#6 => .ok (.sc (rtField w) (rsField w) (immField w))
  | 0x39#6 => .ok (.swc1 (rtField w) (rsField w) (immField w))
  | 0x3C#6 => .ok (.scd (rtField w) (rsField w) (immField w))
  | 0x3D#6 => .ok (.sdc1 (rtField w) (rsField w) (immField w))
  | 0x3F#6 => .ok (.sd (rtField w) (rsField w) (immField w))
  | op => .error (.reservedOp op)

/-- `Decode(word)` (R164, R170): the two-level lookup; reads nothing but the word. -/
def decode (w : Word) : Except DecodeReject Instr := decodeOp (opField w) w

/-- The word at the front of a list of bytes, bit 31 in the byte at the lowest address (R160, R93). -/
def wordOfBytes (b0 b1 b2 b3 : BitVec 8) : Word := b0 ++ b1 ++ b2 ++ b3

/-- The four bytes of a word as the hardware stores them, the lowest address first (R93, R160). -/
def bytesOfWord (w : Word) : List (BitVec 8) :=
  [w.extractLsb' 24 8, w.extractLsb' 16 8, w.extractLsb' 8 8, w.extractLsb' 0 8]

/-- The decoder on any bytes: the instruction at the front and the bytes after it (R174: always four are taken). -/
def decodeBytes : List (BitVec 8) → Except DecodeReject (Instr × List (BitVec 8))
  | b0 :: b1 :: b2 :: b3 :: rest =>
    match decode (wordOfBytes b0 b1 b2 b3) with
    | .ok i => .ok (i, rest)
    | .error e => .error e
  | _ => .error .truncated

/-- The instruction the decoder reads from a table row's word `w`, of which the row gives `nbits` bits: bit 0 of `w` is
the least significant bit of the one 32-bit word, the bits from `nbits` on are 0, and the word is laid out in its byte
order and given to the decoder. -/
def decodeTableWord (nbits w : Nat) : Option Instr :=
  match decodeBytes (bytesOfWord (BitVec.ofNat 32 (w % 2 ^ nbits))) with
  | .ok (i, _) => some i
  | .error _ => none

-- The formats of R161, as words built from their fields.

/-- Format R under SPECIAL. -/
def encR (rs rt rd sa : BitVec 5) (funct : BitVec 6) : Word := 0x00#6 ++ rs ++ rt ++ rd ++ sa ++ funct
/-- Format R with the 10-bit code of the register traps. -/
def encTrap (rs rt : BitVec 5) (code : BitVec 10) (funct : BitVec 6) : Word := 0x00#6 ++ rs ++ rt ++ code ++ funct
/-- Format R with the 20-bit code of SYSCALL and BREAK. -/
def encCode (code : BitVec 20) (funct : BitVec 6) : Word := 0x00#6 ++ code ++ funct
/-- Format I. -/
def encI (op : BitVec 6) (rs rt : BitVec 5) (imm : BitVec 16) : Word := op ++ rs ++ rt ++ imm
/-- Format J. -/
def encJ (op : BitVec 6) (target : BitVec 26) : Word := op ++ target
/-- Format RI (REGIMM): `sub` selects the instruction. -/
def encRI (rs sub : BitVec 5) (imm : BitVec 16) : Word := 0x01#6 ++ rs ++ sub ++ imm
/-- Format CM. -/
def encCM (op : BitVec 6) (sub rt rd : BitVec 5) (low : BitVec 11) : Word := op ++ sub ++ rt ++ rd ++ low
/-- Format CO. -/
def encCO (funct : BitVec 6) : Word := 0x10#6 ++ 0x10#5 ++ 0#15 ++ funct
/-- Format CB. -/
def encCB (cond : BitVec 5) (imm : BitVec 16) : Word := 0x11#6 ++ 0x08#5 ++ cond ++ imm
/-- Format CF: `fmt` and the 21 bits handed to the FPU. -/
def encCF (fmt : BitVec 5) (copFn : BitVec 21) : Word := 0x11#6 ++ fmt ++ copFn

/-- The word of an instruction, every ignored bit (R171) zero. -/
def encode : Instr → Word
  | .add rd rs rt => encR rs rt rd 0#5 0x20#6
  | .addu rd rs rt => encR rs rt rd 0#5 0x21#6
  | .sub rd rs rt => encR rs rt rd 0#5 0x22#6
  | .subu rd rs rt => encR rs rt rd 0#5 0x23#6
  | .addi rt rs imm => encI 0x08#6 rs rt imm
  | .addiu rt rs imm => encI 0x09#6 rs rt imm
  | .dadd rd rs rt => encR rs rt rd 0#5 0x2C#6
  | .daddu rd rs rt => encR rs rt rd 0#5 0x2D#6
  | .dsub rd rs rt => encR rs rt rd 0#5 0x2E#6
  | .dsubu rd rs rt => encR rs rt rd 0#5 0x2F#6
  | .daddi rt rs imm => encI 0x18#6 rs rt imm
  | .daddiu rt rs imm => encI 0x19#6 rs rt imm
  | .and rd rs rt => encR rs rt rd 0#5 0x24#6
  | .or rd rs rt => encR rs rt rd 0#5 0x25#6
  | .xor rd rs rt => encR rs rt rd 0#5 0x26#6
  | .nor rd rs rt => encR rs rt rd 0#5 0x27#6
  | .andi rt rs imm => encI 0x0C#6 rs rt imm
  | .ori rt rs imm => encI 0x0D#6 rs rt imm
  | .xori rt rs imm => encI 0x0E#6 rs rt imm
  | .lui rt imm => encI 0x0F#6 0#5 rt imm
  | .slt rd rs rt => encR rs rt rd 0#5 0x2A#6
  | .sltu rd rs rt => encR rs rt rd 0#5 0x2B#6
  | .slti rt rs imm => encI 0x0A#6 rs rt imm
  | .sltiu rt rs imm => encI 0x0B#6 rs rt imm
  | .sll rd rt sa => encR 0#5 rt rd sa 0x00#6
  | .srl rd rt sa => encR 0#5 rt rd sa 0x02#6
  | .sra rd rt sa => encR 0#5 rt rd sa 0x03#6
  | .sllv rd rt rs => encR rs rt rd 0#5 0x04#6
  | .srlv rd rt rs => encR rs rt rd 0#5 0x06#6
  | .srav rd rt rs => encR rs rt rd 0#5 0x07#6
  | .dsll rd rt sa => encR 0#5 rt rd sa 0x38#6
  | .dsrl rd rt sa => encR 0#5 rt rd sa 0x3A#6
  | .dsra rd rt sa => encR 0#5 rt rd sa 0x3B#6
  | .dsllv rd rt rs => encR rs rt rd 0#5 0x14#6
  | .dsrlv rd rt rs => encR rs rt rd 0#5 0x16#6
  | .dsrav rd rt rs => encR rs rt rd 0#5 0x17#6
  | .dsll32 rd rt sa => encR 0#5 rt rd sa 0x3C#6
  | .dsrl32 rd rt sa => encR 0#5 rt rd sa 0x3E#6
  | .dsra32 rd rt sa => encR 0#5 rt rd sa 0x3F#6
  | .mult rs rt => encR rs rt 0#5 0#5 0x18#6
  | .multu rs rt => encR rs rt 0#5 0#5 0x19#6
  | .div rs rt => encR rs rt 0#5 0#5 0x1A#6
  | .divu rs rt => encR rs rt 0#5 0#5 0x1B#6
  | .dmult rs rt => encR rs rt 0#5 0#5 0x1C#6
  | .dmultu rs rt => encR rs rt 0#5 0#5 0x1D#6
  | .ddiv rs rt => encR rs rt 0#5 0#5 0x1E#6
  | .ddivu rs rt => encR rs rt 0#5 0#5 0x1F#6
  | .mfhi rd => encR 0#5 0#5 rd 0#5 0x10#6
  | .mthi rs => encR rs 0#5 0#5 0#5 0x11#6
  | .mflo rd => encR 0#5 0#5 rd 0#5 0x12#6
  | .mtlo rs => encR rs 0#5 0#5 0#5 0x13#6
  | .j target => encJ 0x02#6 target
  | .jal target => encJ 0x03#6 target
  | .jr rs => encR rs 0#5 0#5 0#5 0x08#6
  | .jalr rd rs => encR rs 0#5 rd 0#5 0x09#6
  | .beq rs rt imm => encI 0x04#6 rs rt imm
  | .bne rs rt imm => encI 0x05#6 rs rt imm
  | .blez rs imm => encI 0x06#6 rs 0#5 imm
  | .bgtz rs imm => encI 0x07#6 rs 0#5 imm
  | .beql rs rt imm => encI 0x14#6 rs rt imm
  | .bnel rs rt imm => encI 0x15#6 rs rt imm
  | .blezl rs imm => encI 0x16#6 rs 0#5 imm
  | .bgtzl rs imm => encI 0x17#6 rs 0#5 imm
  | .bltz rs imm => encRI rs 0x00#5 imm
  | .bgez rs imm => encRI rs 0x01#5 imm
  | .bltzl rs imm => encRI rs 0x02#5 imm
  | .bgezl rs imm => encRI rs 0x03#5 imm
  | .bltzal rs imm => encRI rs 0x10#5 imm
  | .bgezal rs imm => encRI rs 0x11#5 imm
  | .bltzall rs imm => encRI rs 0x12#5 imm
  | .bgezall rs imm => encRI rs 0x13#5 imm
  | .lb rt base imm => encI 0x20#6 base rt imm
  | .lbu rt base imm => encI 0x24#6 base rt imm
  | .lh rt base imm => encI 0x21#6 base rt imm
  | .lhu rt base imm => encI 0x25#6 base rt imm
  | .lw rt base imm => encI 0x23#6 base rt imm
  | .lwu rt base imm => encI 0x27#6 base rt imm
  | .ld rt base imm => encI 0x37#6 base rt imm
  | .lwl rt base imm => encI 0x22#6 base rt imm
  | .lwr rt base imm => encI 0x26#6 base rt imm
  | .ldl rt base imm => encI 0x1A#6 base rt imm
  | .ldr rt base imm => encI 0x1B#6 base rt imm
  | .sb rt base imm => encI 0x28#6 base rt imm
  | .sh rt base imm => encI 0x29#6 base rt imm
  | .sw rt base imm => encI 0x2B#6 base rt imm
  | .sd rt base imm => encI 0x3F#6 base rt imm
  | .swl rt base imm => encI 0x2A#6 base rt imm
  | .swr rt base imm => encI 0x2E#6 base rt imm
  | .sdl rt base imm => encI 0x2C#6 base rt imm
  | .sdr rt base imm => encI 0x2D#6 base rt imm
  | .ll rt base imm => encI 0x30#6 base rt imm
  | .lld rt base imm => encI 0x34#6 base rt imm
  | .sc rt base imm => encI 0x38#6 base rt imm
  | .scd rt base imm => encI 0x3C#6 base rt imm
  | .cache op base imm => encI 0x2F#6 base op imm
  | .sync => encR 0#5 0#5 0#5 0#5 0x0F#6
  | .tge rs rt code => encTrap rs rt code 0x30#6
  | .tgeu rs rt code => encTrap rs rt code 0x31#6
  | .tlt rs rt code => encTrap rs rt code 0x32#6
  | .tltu rs rt code => encTrap rs rt code 0x33#6
  | .teq rs rt code => encTrap rs rt code 0x34#6
  | .tne rs rt code => encTrap rs rt code 0x36#6
  | .tgei rs imm => encRI rs 0x08#5 imm
  | .tgeiu rs imm => encRI rs 0x09#5 imm
  | .tlti rs imm => encRI rs 0x0A#5 imm
  | .tltiu rs imm => encRI rs 0x0B#5 imm
  | .teqi rs imm => encRI rs 0x0C#5 imm
  | .tnei rs imm => encRI rs 0x0E#5 imm
  | .syscall code => encCode code 0x0C#6
  | .brk code => encCode code 0x0D#6
  | .mfc0 rt rd => encCM 0x10#6 0x00#5 rt rd 0#11
  | .dmfc0 rt rd => encCM 0x10#6 0x01#5 rt rd 0#11
  | .mtc0 rt rd => encCM 0x10#6 0x04#5 rt rd 0#11
  | .dmtc0 rt rd => encCM 0x10#6 0x05#5 rt rd 0#11
  | .tlbr => encCO 0x01#6
  | .tlbwi => encCO 0x02#6
  | .tlbwr => encCO 0x06#6
  | .tlbp => encCO 0x08#6
  | .eret => encCO 0x18#6
  | .mfc1 rt fs low => encCM 0x11#6 0x00#5 rt fs low
  | .dmfc1 rt fs low => encCM 0x11#6 0x01#5 rt fs low
  | .cfc1 rt fs low => encCM 0x11#6 0x02#5 rt fs low
  | .mtc1 rt fs low => encCM 0x11#6 0x04#5 rt fs low
  | .dmtc1 rt fs low => encCM 0x11#6 0x05#5 rt fs low
  | .ctc1 rt fs low => encCM 0x11#6 0x06#5 rt fs low
  | .bc1f imm => encCB 0x00#5 imm
  | .bc1t imm => encCB 0x01#5 imm
  | .bc1fl imm => encCB 0x02#5 imm
  | .bc1tl imm => encCB 0x03#5 imm
  | .lwc1 ft base imm => encI 0x31#6 base ft imm
  | .ldc1 ft base imm => encI 0x35#6 base ft imm
  | .swc1 ft base imm => encI 0x39#6 base ft imm
  | .sdc1 ft base imm => encI 0x3D#6 base ft imm
  | .cop1S copFn => encCF 0x10#5 copFn
  | .cop1D copFn => encCF 0x11#5 copFn
  | .cop1W copFn => encCF 0x14#5 copFn
  | .cop1L copFn => encCF 0x15#5 copFn

/-- A row of the opcode table: a word `w` selects it when `w &&& mask = value` (R170). -/
structure Row where
  mask : Word
  value : Word
  deriving DecidableEq, Repr

/-- The row of the opcode table an instruction belongs to. -/
def Instr.row : Instr → Row
  | .add _ _ _ => ⟨0xFC00003F#32, 0x00000020#32⟩
  | .addu _ _ _ => ⟨0xFC00003F#32, 0x00000021#32⟩
  | .sub _ _ _ => ⟨0xFC00003F#32, 0x00000022#32⟩
  | .subu _ _ _ => ⟨0xFC00003F#32, 0x00000023#32⟩
  | .addi _ _ _ => ⟨0xFC000000#32, 0x20000000#32⟩
  | .addiu _ _ _ => ⟨0xFC000000#32, 0x24000000#32⟩
  | .dadd _ _ _ => ⟨0xFC00003F#32, 0x0000002C#32⟩
  | .daddu _ _ _ => ⟨0xFC00003F#32, 0x0000002D#32⟩
  | .dsub _ _ _ => ⟨0xFC00003F#32, 0x0000002E#32⟩
  | .dsubu _ _ _ => ⟨0xFC00003F#32, 0x0000002F#32⟩
  | .daddi _ _ _ => ⟨0xFC000000#32, 0x60000000#32⟩
  | .daddiu _ _ _ => ⟨0xFC000000#32, 0x64000000#32⟩
  | .and _ _ _ => ⟨0xFC00003F#32, 0x00000024#32⟩
  | .or _ _ _ => ⟨0xFC00003F#32, 0x00000025#32⟩
  | .xor _ _ _ => ⟨0xFC00003F#32, 0x00000026#32⟩
  | .nor _ _ _ => ⟨0xFC00003F#32, 0x00000027#32⟩
  | .andi _ _ _ => ⟨0xFC000000#32, 0x30000000#32⟩
  | .ori _ _ _ => ⟨0xFC000000#32, 0x34000000#32⟩
  | .xori _ _ _ => ⟨0xFC000000#32, 0x38000000#32⟩
  | .lui _ _ => ⟨0xFC000000#32, 0x3C000000#32⟩
  | .slt _ _ _ => ⟨0xFC00003F#32, 0x0000002A#32⟩
  | .sltu _ _ _ => ⟨0xFC00003F#32, 0x0000002B#32⟩
  | .slti _ _ _ => ⟨0xFC000000#32, 0x28000000#32⟩
  | .sltiu _ _ _ => ⟨0xFC000000#32, 0x2C000000#32⟩
  | .sll _ _ _ => ⟨0xFC00003F#32, 0x00000000#32⟩
  | .srl _ _ _ => ⟨0xFC00003F#32, 0x00000002#32⟩
  | .sra _ _ _ => ⟨0xFC00003F#32, 0x00000003#32⟩
  | .sllv _ _ _ => ⟨0xFC00003F#32, 0x00000004#32⟩
  | .srlv _ _ _ => ⟨0xFC00003F#32, 0x00000006#32⟩
  | .srav _ _ _ => ⟨0xFC00003F#32, 0x00000007#32⟩
  | .dsll _ _ _ => ⟨0xFC00003F#32, 0x00000038#32⟩
  | .dsrl _ _ _ => ⟨0xFC00003F#32, 0x0000003A#32⟩
  | .dsra _ _ _ => ⟨0xFC00003F#32, 0x0000003B#32⟩
  | .dsllv _ _ _ => ⟨0xFC00003F#32, 0x00000014#32⟩
  | .dsrlv _ _ _ => ⟨0xFC00003F#32, 0x00000016#32⟩
  | .dsrav _ _ _ => ⟨0xFC00003F#32, 0x00000017#32⟩
  | .dsll32 _ _ _ => ⟨0xFC00003F#32, 0x0000003C#32⟩
  | .dsrl32 _ _ _ => ⟨0xFC00003F#32, 0x0000003E#32⟩
  | .dsra32 _ _ _ => ⟨0xFC00003F#32, 0x0000003F#32⟩
  | .mult _ _ => ⟨0xFC00003F#32, 0x00000018#32⟩
  | .multu _ _ => ⟨0xFC00003F#32, 0x00000019#32⟩
  | .div _ _ => ⟨0xFC00003F#32, 0x0000001A#32⟩
  | .divu _ _ => ⟨0xFC00003F#32, 0x0000001B#32⟩
  | .dmult _ _ => ⟨0xFC00003F#32, 0x0000001C#32⟩
  | .dmultu _ _ => ⟨0xFC00003F#32, 0x0000001D#32⟩
  | .ddiv _ _ => ⟨0xFC00003F#32, 0x0000001E#32⟩
  | .ddivu _ _ => ⟨0xFC00003F#32, 0x0000001F#32⟩
  | .mfhi _ => ⟨0xFC00003F#32, 0x00000010#32⟩
  | .mthi _ => ⟨0xFC00003F#32, 0x00000011#32⟩
  | .mflo _ => ⟨0xFC00003F#32, 0x00000012#32⟩
  | .mtlo _ => ⟨0xFC00003F#32, 0x00000013#32⟩
  | .j _ => ⟨0xFC000000#32, 0x08000000#32⟩
  | .jal _ => ⟨0xFC000000#32, 0x0C000000#32⟩
  | .jr _ => ⟨0xFC00003F#32, 0x00000008#32⟩
  | .jalr _ _ => ⟨0xFC00003F#32, 0x00000009#32⟩
  | .beq _ _ _ => ⟨0xFC000000#32, 0x10000000#32⟩
  | .bne _ _ _ => ⟨0xFC000000#32, 0x14000000#32⟩
  | .blez _ _ => ⟨0xFC000000#32, 0x18000000#32⟩
  | .bgtz _ _ => ⟨0xFC000000#32, 0x1C000000#32⟩
  | .beql _ _ _ => ⟨0xFC000000#32, 0x50000000#32⟩
  | .bnel _ _ _ => ⟨0xFC000000#32, 0x54000000#32⟩
  | .blezl _ _ => ⟨0xFC000000#32, 0x58000000#32⟩
  | .bgtzl _ _ => ⟨0xFC000000#32, 0x5C000000#32⟩
  | .bltz _ _ => ⟨0xFC1F0000#32, 0x04000000#32⟩
  | .bgez _ _ => ⟨0xFC1F0000#32, 0x04010000#32⟩
  | .bltzl _ _ => ⟨0xFC1F0000#32, 0x04020000#32⟩
  | .bgezl _ _ => ⟨0xFC1F0000#32, 0x04030000#32⟩
  | .bltzal _ _ => ⟨0xFC1F0000#32, 0x04100000#32⟩
  | .bgezal _ _ => ⟨0xFC1F0000#32, 0x04110000#32⟩
  | .bltzall _ _ => ⟨0xFC1F0000#32, 0x04120000#32⟩
  | .bgezall _ _ => ⟨0xFC1F0000#32, 0x04130000#32⟩
  | .lb _ _ _ => ⟨0xFC000000#32, 0x80000000#32⟩
  | .lbu _ _ _ => ⟨0xFC000000#32, 0x90000000#32⟩
  | .lh _ _ _ => ⟨0xFC000000#32, 0x84000000#32⟩
  | .lhu _ _ _ => ⟨0xFC000000#32, 0x94000000#32⟩
  | .lw _ _ _ => ⟨0xFC000000#32, 0x8C000000#32⟩
  | .lwu _ _ _ => ⟨0xFC000000#32, 0x9C000000#32⟩
  | .ld _ _ _ => ⟨0xFC000000#32, 0xDC000000#32⟩
  | .lwl _ _ _ => ⟨0xFC000000#32, 0x88000000#32⟩
  | .lwr _ _ _ => ⟨0xFC000000#32, 0x98000000#32⟩
  | .ldl _ _ _ => ⟨0xFC000000#32, 0x68000000#32⟩
  | .ldr _ _ _ => ⟨0xFC000000#32, 0x6C000000#32⟩
  | .sb _ _ _ => ⟨0xFC000000#32, 0xA0000000#32⟩
  | .sh _ _ _ => ⟨0xFC000000#32, 0xA4000000#32⟩
  | .sw _ _ _ => ⟨0xFC000000#32, 0xAC000000#32⟩
  | .sd _ _ _ => ⟨0xFC000000#32, 0xFC000000#32⟩
  | .swl _ _ _ => ⟨0xFC000000#32, 0xA8000000#32⟩
  | .swr _ _ _ => ⟨0xFC000000#32, 0xB8000000#32⟩
  | .sdl _ _ _ => ⟨0xFC000000#32, 0xB0000000#32⟩
  | .sdr _ _ _ => ⟨0xFC000000#32, 0xB4000000#32⟩
  | .ll _ _ _ => ⟨0xFC000000#32, 0xC0000000#32⟩
  | .lld _ _ _ => ⟨0xFC000000#32, 0xD0000000#32⟩
  | .sc _ _ _ => ⟨0xFC000000#32, 0xE0000000#32⟩
  | .scd _ _ _ => ⟨0xFC000000#32, 0xF0000000#32⟩
  | .cache _ _ _ => ⟨0xFC000000#32, 0xBC000000#32⟩
  | .sync => ⟨0xFC00003F#32, 0x0000000F#32⟩
  | .tge _ _ _ => ⟨0xFC00003F#32, 0x00000030#32⟩
  | .tgeu _ _ _ => ⟨0xFC00003F#32, 0x00000031#32⟩
  | .tlt _ _ _ => ⟨0xFC00003F#32, 0x00000032#32⟩
  | .tltu _ _ _ => ⟨0xFC00003F#32, 0x00000033#32⟩
  | .teq _ _ _ => ⟨0xFC00003F#32, 0x00000034#32⟩
  | .tne _ _ _ => ⟨0xFC00003F#32, 0x00000036#32⟩
  | .tgei _ _ => ⟨0xFC1F0000#32, 0x04080000#32⟩
  | .tgeiu _ _ => ⟨0xFC1F0000#32, 0x04090000#32⟩
  | .tlti _ _ => ⟨0xFC1F0000#32, 0x040A0000#32⟩
  | .tltiu _ _ => ⟨0xFC1F0000#32, 0x040B0000#32⟩
  | .teqi _ _ => ⟨0xFC1F0000#32, 0x040C0000#32⟩
  | .tnei _ _ => ⟨0xFC1F0000#32, 0x040E0000#32⟩
  | .syscall _ => ⟨0xFC00003F#32, 0x0000000C#32⟩
  | .brk _ => ⟨0xFC00003F#32, 0x0000000D#32⟩
  | .mfc0 _ _ => ⟨0xFFE00000#32, 0x40000000#32⟩
  | .dmfc0 _ _ => ⟨0xFFE00000#32, 0x40200000#32⟩
  | .mtc0 _ _ => ⟨0xFFE00000#32, 0x40800000#32⟩
  | .dmtc0 _ _ => ⟨0xFFE00000#32, 0x40A00000#32⟩
  | .tlbr => ⟨0xFE00003F#32, 0x42000001#32⟩
  | .tlbwi => ⟨0xFE00003F#32, 0x42000002#32⟩
  | .tlbwr => ⟨0xFE00003F#32, 0x42000006#32⟩
  | .tlbp => ⟨0xFE00003F#32, 0x42000008#32⟩
  | .eret => ⟨0xFE00003F#32, 0x42000018#32⟩
  | .mfc1 _ _ _ => ⟨0xFFE00000#32, 0x44000000#32⟩
  | .dmfc1 _ _ _ => ⟨0xFFE00000#32, 0x44200000#32⟩
  | .cfc1 _ _ _ => ⟨0xFFE00000#32, 0x44400000#32⟩
  | .mtc1 _ _ _ => ⟨0xFFE00000#32, 0x44800000#32⟩
  | .dmtc1 _ _ _ => ⟨0xFFE00000#32, 0x44A00000#32⟩
  | .ctc1 _ _ _ => ⟨0xFFE00000#32, 0x44C00000#32⟩
  | .bc1f _ => ⟨0xFFFF0000#32, 0x45000000#32⟩
  | .bc1t _ => ⟨0xFFFF0000#32, 0x45010000#32⟩
  | .bc1fl _ => ⟨0xFFFF0000#32, 0x45020000#32⟩
  | .bc1tl _ => ⟨0xFFFF0000#32, 0x45030000#32⟩
  | .lwc1 _ _ _ => ⟨0xFC000000#32, 0xC4000000#32⟩
  | .ldc1 _ _ _ => ⟨0xFC000000#32, 0xD4000000#32⟩
  | .swc1 _ _ _ => ⟨0xFC000000#32, 0xE4000000#32⟩
  | .sdc1 _ _ _ => ⟨0xFC000000#32, 0xF4000000#32⟩
  | .cop1S _ => ⟨0xFFE00000#32, 0x46000000#32⟩
  | .cop1D _ => ⟨0xFFE00000#32, 0x46200000#32⟩
  | .cop1W _ => ⟨0xFFE00000#32, 0x46800000#32⟩
  | .cop1L _ => ⟨0xFFE00000#32, 0x46A00000#32⟩

/-- The bits of the word an instruction reads: its row's mask and its fields. Every other bit is ignored (R171). -/
def Instr.careMask : Instr → Word
  | .add _ _ _ => 0xFFFFF83F#32
  | .addu _ _ _ => 0xFFFFF83F#32
  | .sub _ _ _ => 0xFFFFF83F#32
  | .subu _ _ _ => 0xFFFFF83F#32
  | .addi _ _ _ => 0xFFFFFFFF#32
  | .addiu _ _ _ => 0xFFFFFFFF#32
  | .dadd _ _ _ => 0xFFFFF83F#32
  | .daddu _ _ _ => 0xFFFFF83F#32
  | .dsub _ _ _ => 0xFFFFF83F#32
  | .dsubu _ _ _ => 0xFFFFF83F#32
  | .daddi _ _ _ => 0xFFFFFFFF#32
  | .daddiu _ _ _ => 0xFFFFFFFF#32
  | .and _ _ _ => 0xFFFFF83F#32
  | .or _ _ _ => 0xFFFFF83F#32
  | .xor _ _ _ => 0xFFFFF83F#32
  | .nor _ _ _ => 0xFFFFF83F#32
  | .andi _ _ _ => 0xFFFFFFFF#32
  | .ori _ _ _ => 0xFFFFFFFF#32
  | .xori _ _ _ => 0xFFFFFFFF#32
  | .lui _ _ => 0xFC1FFFFF#32
  | .slt _ _ _ => 0xFFFFF83F#32
  | .sltu _ _ _ => 0xFFFFF83F#32
  | .slti _ _ _ => 0xFFFFFFFF#32
  | .sltiu _ _ _ => 0xFFFFFFFF#32
  | .sll _ _ _ => 0xFC1FFFFF#32
  | .srl _ _ _ => 0xFC1FFFFF#32
  | .sra _ _ _ => 0xFC1FFFFF#32
  | .sllv _ _ _ => 0xFFFFF83F#32
  | .srlv _ _ _ => 0xFFFFF83F#32
  | .srav _ _ _ => 0xFFFFF83F#32
  | .dsll _ _ _ => 0xFC1FFFFF#32
  | .dsrl _ _ _ => 0xFC1FFFFF#32
  | .dsra _ _ _ => 0xFC1FFFFF#32
  | .dsllv _ _ _ => 0xFFFFF83F#32
  | .dsrlv _ _ _ => 0xFFFFF83F#32
  | .dsrav _ _ _ => 0xFFFFF83F#32
  | .dsll32 _ _ _ => 0xFC1FFFFF#32
  | .dsrl32 _ _ _ => 0xFC1FFFFF#32
  | .dsra32 _ _ _ => 0xFC1FFFFF#32
  | .mult _ _ => 0xFFFF003F#32
  | .multu _ _ => 0xFFFF003F#32
  | .div _ _ => 0xFFFF003F#32
  | .divu _ _ => 0xFFFF003F#32
  | .dmult _ _ => 0xFFFF003F#32
  | .dmultu _ _ => 0xFFFF003F#32
  | .ddiv _ _ => 0xFFFF003F#32
  | .ddivu _ _ => 0xFFFF003F#32
  | .mfhi _ => 0xFC00F83F#32
  | .mthi _ => 0xFFE0003F#32
  | .mflo _ => 0xFC00F83F#32
  | .mtlo _ => 0xFFE0003F#32
  | .j _ => 0xFFFFFFFF#32
  | .jal _ => 0xFFFFFFFF#32
  | .jr _ => 0xFFE0003F#32
  | .jalr _ _ => 0xFFE0F83F#32
  | .beq _ _ _ => 0xFFFFFFFF#32
  | .bne _ _ _ => 0xFFFFFFFF#32
  | .blez _ _ => 0xFFE0FFFF#32
  | .bgtz _ _ => 0xFFE0FFFF#32
  | .beql _ _ _ => 0xFFFFFFFF#32
  | .bnel _ _ _ => 0xFFFFFFFF#32
  | .blezl _ _ => 0xFFE0FFFF#32
  | .bgtzl _ _ => 0xFFE0FFFF#32
  | .bltz _ _ => 0xFFFFFFFF#32
  | .bgez _ _ => 0xFFFFFFFF#32
  | .bltzl _ _ => 0xFFFFFFFF#32
  | .bgezl _ _ => 0xFFFFFFFF#32
  | .bltzal _ _ => 0xFFFFFFFF#32
  | .bgezal _ _ => 0xFFFFFFFF#32
  | .bltzall _ _ => 0xFFFFFFFF#32
  | .bgezall _ _ => 0xFFFFFFFF#32
  | .lb _ _ _ => 0xFFFFFFFF#32
  | .lbu _ _ _ => 0xFFFFFFFF#32
  | .lh _ _ _ => 0xFFFFFFFF#32
  | .lhu _ _ _ => 0xFFFFFFFF#32
  | .lw _ _ _ => 0xFFFFFFFF#32
  | .lwu _ _ _ => 0xFFFFFFFF#32
  | .ld _ _ _ => 0xFFFFFFFF#32
  | .lwl _ _ _ => 0xFFFFFFFF#32
  | .lwr _ _ _ => 0xFFFFFFFF#32
  | .ldl _ _ _ => 0xFFFFFFFF#32
  | .ldr _ _ _ => 0xFFFFFFFF#32
  | .sb _ _ _ => 0xFFFFFFFF#32
  | .sh _ _ _ => 0xFFFFFFFF#32
  | .sw _ _ _ => 0xFFFFFFFF#32
  | .sd _ _ _ => 0xFFFFFFFF#32
  | .swl _ _ _ => 0xFFFFFFFF#32
  | .swr _ _ _ => 0xFFFFFFFF#32
  | .sdl _ _ _ => 0xFFFFFFFF#32
  | .sdr _ _ _ => 0xFFFFFFFF#32
  | .ll _ _ _ => 0xFFFFFFFF#32
  | .lld _ _ _ => 0xFFFFFFFF#32
  | .sc _ _ _ => 0xFFFFFFFF#32
  | .scd _ _ _ => 0xFFFFFFFF#32
  | .cache _ _ _ => 0xFFFFFFFF#32
  | .sync => 0xFC00003F#32
  | .tge _ _ _ => 0xFFFFFFFF#32
  | .tgeu _ _ _ => 0xFFFFFFFF#32
  | .tlt _ _ _ => 0xFFFFFFFF#32
  | .tltu _ _ _ => 0xFFFFFFFF#32
  | .teq _ _ _ => 0xFFFFFFFF#32
  | .tne _ _ _ => 0xFFFFFFFF#32
  | .tgei _ _ => 0xFFFFFFFF#32
  | .tgeiu _ _ => 0xFFFFFFFF#32
  | .tlti _ _ => 0xFFFFFFFF#32
  | .tltiu _ _ => 0xFFFFFFFF#32
  | .teqi _ _ => 0xFFFFFFFF#32
  | .tnei _ _ => 0xFFFFFFFF#32
  | .syscall _ => 0xFFFFFFFF#32
  | .brk _ => 0xFFFFFFFF#32
  | .mfc0 _ _ => 0xFFFFF800#32
  | .dmfc0 _ _ => 0xFFFFF800#32
  | .mtc0 _ _ => 0xFFFFF800#32
  | .dmtc0 _ _ => 0xFFFFF800#32
  | .tlbr => 0xFE00003F#32
  | .tlbwi => 0xFE00003F#32
  | .tlbwr => 0xFE00003F#32
  | .tlbp => 0xFE00003F#32
  | .eret => 0xFE00003F#32
  | .mfc1 _ _ _ => 0xFFFFFFFF#32
  | .dmfc1 _ _ _ => 0xFFFFFFFF#32
  | .cfc1 _ _ _ => 0xFFFFFFFF#32
  | .mtc1 _ _ _ => 0xFFFFFFFF#32
  | .dmtc1 _ _ _ => 0xFFFFFFFF#32
  | .ctc1 _ _ _ => 0xFFFFFFFF#32
  | .bc1f _ => 0xFFFFFFFF#32
  | .bc1t _ => 0xFFFFFFFF#32
  | .bc1fl _ => 0xFFFFFFFF#32
  | .bc1tl _ => 0xFFFFFFFF#32
  | .lwc1 _ _ _ => 0xFFFFFFFF#32
  | .ldc1 _ _ _ => 0xFFFFFFFF#32
  | .swc1 _ _ _ => 0xFFFFFFFF#32
  | .sdc1 _ _ _ => 0xFFFFFFFF#32
  | .cop1S _ => 0xFFFFFFFF#32
  | .cop1D _ => 0xFFFFFFFF#32
  | .cop1W _ => 0xFFFFFFFF#32
  | .cop1L _ => 0xFFFFFFFF#32

/-- The class of an instruction (R179). -/
def Instr.cls : Instr → InstrClass
  | .add _ _ _ => .alu
  | .addu _ _ _ => .alu
  | .sub _ _ _ => .alu
  | .subu _ _ _ => .alu
  | .addi _ _ _ => .alu
  | .addiu _ _ _ => .alu
  | .dadd _ _ _ => .alu
  | .daddu _ _ _ => .alu
  | .dsub _ _ _ => .alu
  | .dsubu _ _ _ => .alu
  | .daddi _ _ _ => .alu
  | .daddiu _ _ _ => .alu
  | .and _ _ _ => .alu
  | .or _ _ _ => .alu
  | .xor _ _ _ => .alu
  | .nor _ _ _ => .alu
  | .andi _ _ _ => .alu
  | .ori _ _ _ => .alu
  | .xori _ _ _ => .alu
  | .lui _ _ => .alu
  | .slt _ _ _ => .alu
  | .sltu _ _ _ => .alu
  | .slti _ _ _ => .alu
  | .sltiu _ _ _ => .alu
  | .sll _ _ _ => .alu
  | .srl _ _ _ => .alu
  | .sra _ _ _ => .alu
  | .sllv _ _ _ => .alu
  | .srlv _ _ _ => .alu
  | .srav _ _ _ => .alu
  | .dsll _ _ _ => .alu
  | .dsrl _ _ _ => .alu
  | .dsra _ _ _ => .alu
  | .dsllv _ _ _ => .alu
  | .dsrlv _ _ _ => .alu
  | .dsrav _ _ _ => .alu
  | .dsll32 _ _ _ => .alu
  | .dsrl32 _ _ _ => .alu
  | .dsra32 _ _ _ => .alu
  | .mult _ _ => .muldiv
  | .multu _ _ => .muldiv
  | .div _ _ => .muldiv
  | .divu _ _ => .muldiv
  | .dmult _ _ => .muldiv
  | .dmultu _ _ => .muldiv
  | .ddiv _ _ => .muldiv
  | .ddivu _ _ => .muldiv
  | .mfhi _ => .muldiv
  | .mthi _ => .muldiv
  | .mflo _ => .muldiv
  | .mtlo _ => .muldiv
  | .j _ => .jump
  | .jal _ => .jump
  | .jr _ => .jump
  | .jalr _ _ => .jump
  | .beq _ _ _ => .branch
  | .bne _ _ _ => .branch
  | .blez _ _ => .branch
  | .bgtz _ _ => .branch
  | .beql _ _ _ => .branch
  | .bnel _ _ _ => .branch
  | .blezl _ _ => .branch
  | .bgtzl _ _ => .branch
  | .bltz _ _ => .branch
  | .bgez _ _ => .branch
  | .bltzl _ _ => .branch
  | .bgezl _ _ => .branch
  | .bltzal _ _ => .branch
  | .bgezal _ _ => .branch
  | .bltzall _ _ => .branch
  | .bgezall _ _ => .branch
  | .lb _ _ _ => .load
  | .lbu _ _ _ => .load
  | .lh _ _ _ => .load
  | .lhu _ _ _ => .load
  | .lw _ _ _ => .load
  | .lwu _ _ _ => .load
  | .ld _ _ _ => .load
  | .lwl _ _ _ => .load
  | .lwr _ _ _ => .load
  | .ldl _ _ _ => .load
  | .ldr _ _ _ => .load
  | .sb _ _ _ => .store
  | .sh _ _ _ => .store
  | .sw _ _ _ => .store
  | .sd _ _ _ => .store
  | .swl _ _ _ => .store
  | .swr _ _ _ => .store
  | .sdl _ _ _ => .store
  | .sdr _ _ _ => .store
  | .ll _ _ _ => .llsc
  | .lld _ _ _ => .llsc
  | .sc _ _ _ => .llsc
  | .scd _ _ _ => .llsc
  | .cache _ _ _ => .cacheop
  | .sync => .sync
  | .tge _ _ _ => .trap
  | .tgeu _ _ _ => .trap
  | .tlt _ _ _ => .trap
  | .tltu _ _ _ => .trap
  | .teq _ _ _ => .trap
  | .tne _ _ _ => .trap
  | .tgei _ _ => .trap
  | .tgeiu _ _ => .trap
  | .tlti _ _ => .trap
  | .tltiu _ _ => .trap
  | .teqi _ _ => .trap
  | .tnei _ _ => .trap
  | .syscall _ => .system
  | .brk _ => .system
  | .mfc0 _ _ => .cop0
  | .dmfc0 _ _ => .cop0
  | .mtc0 _ _ => .cop0
  | .dmtc0 _ _ => .cop0
  | .tlbr => .cop0
  | .tlbwi => .cop0
  | .tlbwr => .cop0
  | .tlbp => .cop0
  | .eret => .cop0
  | .mfc1 _ _ _ => .fpu
  | .dmfc1 _ _ _ => .fpu
  | .cfc1 _ _ _ => .fpu
  | .mtc1 _ _ _ => .fpu
  | .dmtc1 _ _ _ => .fpu
  | .ctc1 _ _ _ => .fpu
  | .bc1f _ => .fpuBranch
  | .bc1t _ => .fpuBranch
  | .bc1fl _ => .fpuBranch
  | .bc1tl _ => .fpuBranch
  | .lwc1 _ _ _ => .fpuMem
  | .ldc1 _ _ _ => .fpuMem
  | .swc1 _ _ _ => .fpuMem
  | .sdc1 _ _ _ => .fpuMem
  | .cop1S _ => .fpu
  | .cop1D _ => .fpu
  | .cop1W _ => .fpu
  | .cop1L _ => .fpu

/-- The static block-terminator predicate of an instruction (R178): jumps, branches, traps, SYSCALL and BREAK, the
floating-point branches, and ERET alone of COP0. -/
def Instr.endsBlock (i : Instr) : Bool :=
  match i.cls with
  | .jump | .branch | .trap | .system | .fpuBranch => true
  | .cop0 => decide (i = .eret)
  | .alu | .muldiv | .load | .store | .llsc | .cacheop | .sync | .fpu | .fpuMem => false

/-- `ends_block(word)` (R178); for a reserved word it is not defined. -/
def endsBlock (w : Word) : Option Bool :=
  match decode w with
  | .ok i => some i.endsBlock
  | .error _ => none

/-- The bundle `Decode` gives (R170): the row's instruction, the fields extracted from every word (R162), and
`ends_block`. -/
structure Decoded where
  instr : Instr
  rs : BitVec 5
  rt : BitVec 5
  rd : BitVec 5
  sa : BitVec 5
  funct : BitVec 6
  imm16 : BitVec 16
  target26 : BitVec 26
  endsBlock : Bool
  deriving DecidableEq, Repr

/-- `Decode(word)` with its whole output (R170). -/
def decodeBundle (w : Word) : Except DecodeReject Decoded :=
  match decode w with
  | .ok i =>
    .ok ⟨i, rsField w, rtField w, rdField w, saField w, functField w, immField w, targetField w, i.endsBlock⟩
  | .error e => .error e

end Sys2Proof
end

