-- ==== Sys2Proof/Machine/FpuPort.lean ====
section
/-! DEFINITION. The FPU port (46_cop1_interface.md R430, R431, R453). The floating-point unit is an outside agent: the
model records each call in `ports` and takes each answer as a free value of the calls made so far (log 7). -/

namespace Sys2Proof.Machine

/-- A call on an outside agent, recorded. -/
def State.call (c : Config.PortCall) (s : State) : State := { s with ports := c :: s.ports }

/-- Status.FR at this moment, as handed to the port (R431). -/
def State.fr (s : State) : Bool := statusFR s.cop0.status

/-- A COP1-class instruction past the usability check (R430). -/
def withCop1 (s : State) (k : Result) : Result :=
  if statusCU1 s.cop0.status then k else raiseHere .coprocessorUnusable 1 s

/-- The answer of `FpuCond()` (R431). -/
def State.fpuCond (s : State) : Bool := Config.answerCond (.fpuCond :: s.ports)

/-- The answer of `FpuMoveFrom(word, FR)` (R431). -/
def State.fpuMoveFrom (word : Word) (s : State) : DWord := Config.answerWord (.fpuMoveFrom word s.fr :: s.ports)

/-- The answer of `FpuStoreData(ft, n, FR)`: `8n` bits (R431). -/
def State.fpuStoreData (ft : RegIdx) (w : Width) (s : State) : DWord :=
  zext w.bits (Config.answerWord (.fpuStoreData ft w s.fr :: s.ports))

/-- A call the FPU answers with `ok` or `fpe` (R431); `fpe` raises FloatingPoint (R453). -/
def State.fpuReport (c : Config.PortCall) (s : State) : Result :=
  if Config.answerFpe (c :: s.ports) then raiseHere .floatingPoint 0 (s.call c) else .next (s.call c)

/-- MFC1, DMFC1, CFC1: `x[rt]` takes the port's answer (R432 to R434). -/
def State.fpuToReg (word : Word) (rt : RegIdx) (s : State) : Result :=
  withCop1 s (.next ((s.call (.fpuMoveFrom word s.fr)).writeReg rt (s.fpuMoveFrom word)))

/-- MTC1, DMTC1, CTC1: the port is handed `x[rt]` (R435 to R437). -/
def State.regToFpu (word : Word) (rt : RegIdx) (s : State) : Result :=
  withCop1 s (s.fpuReport (.fpuMoveTo word (s.readReg rt) s.fr))

/-- An operate instruction: the port is handed the whole word (R447). -/
def State.fpuOperate (word : Word) (s : State) : Result := withCop1 s (s.fpuReport (.fpuExec word s.fr))

/-- A branch on the condition bit being `want` (R438, R439). -/
def State.fpuBranch (want : Bool) (imm : BitVec 16) (s : State) : Result :=
  withCop1 s (.next ((s.call .fpuCond).branch (s.fpuCond == want) (branchTarget s.pc imm)))

/-- A likely branch on the condition bit being `want` (R440, R441). -/
def State.fpuBranchLikely (want : Bool) (imm : BitVec 16) (s : State) : Result :=
  withCop1 s (.next ((s.call .fpuCond).branchLikely (s.fpuCond == want) (branchTarget s.pc imm)))

/-- LWC1, LDC1: one read, handed to the FPU (R442, R443). -/
def State.fpuLoad (w : Width) (ft base : RegIdx) (imm : BitVec 16) (s : State) : Result :=
  withCop1 s (withDataAddr .load w true base imm s fun pa =>
    .next ((s.memRead pa w).2.call (.fpuLoad ft w (s.memRead pa w).1 s.fr)))

/-- SWC1, SDC1: the FPU is asked for the datum after the address has translated, then one write (R444, R445). -/
def State.fpuStore (w : Width) (ft base : RegIdx) (imm : BitVec 16) (s : State) : Result :=
  withCop1 s (withDataAddr .store w true base imm s fun pa =>
    .next ((s.call (.fpuStoreData ft w s.fr)).memWrite pa w (s.fpuStoreData ft w)))

end Sys2Proof.Machine
end

