-- ==== Sys2Proof/Machine/Cop1.lean ====
section
/-! DEFINITION. The floating-point interface (46_cop1_interface.md). The word handed to the port is the
instruction's own: one definition per instruction. -/

namespace Sys2Proof.Machine

/-- R432, MFC1: move a 32-bit floating-point register value to `rt` (sign-extended by the FPU). -/
def execMfc1 (rt fs : RegIdx) (low : BitVec 11) (s : State) : Result := s.fpuToReg (encode (.mfc1 rt fs low)) rt

/-- R433, DMFC1: move a 64-bit floating-point register value to `rt`. -/
def execDmfc1 (rt fs : RegIdx) (low : BitVec 11) (s : State) : Result := s.fpuToReg (encode (.dmfc1 rt fs low)) rt

/-- R434, CFC1: move a floating-point control register to `rt`. -/
def execCfc1 (rt fs : RegIdx) (low : BitVec 11) (s : State) : Result := s.fpuToReg (encode (.cfc1 rt fs low)) rt

/-- R435, MTC1: move the low word of `rt` to a floating-point register. -/
def execMtc1 (rt fs : RegIdx) (low : BitVec 11) (s : State) : Result := s.regToFpu (encode (.mtc1 rt fs low)) rt

/-- R436, DMTC1: move the 64-bit `rt` to a floating-point register. -/
def execDmtc1 (rt fs : RegIdx) (low : BitVec 11) (s : State) : Result := s.regToFpu (encode (.dmtc1 rt fs low)) rt

/-- R437, CTC1: move `rt` to a floating-point control register. -/
def execCtc1 (rt fs : RegIdx) (low : BitVec 11) (s : State) : Result := s.regToFpu (encode (.ctc1 rt fs low)) rt

/-- R438, BC1F: branch if the floating-point condition is false. -/
def execBc1f (imm : BitVec 16) (s : State) : Result := s.fpuBranch false imm

/-- R439, BC1T: branch if the floating-point condition is true. -/
def execBc1t (imm : BitVec 16) (s : State) : Result := s.fpuBranch true imm

/-- R440, BC1FL: branch likely if the condition is false. -/
def execBc1fl (imm : BitVec 16) (s : State) : Result := s.fpuBranchLikely false imm

/-- R441, BC1TL: branch likely if the condition is true. -/
def execBc1tl (imm : BitVec 16) (s : State) : Result := s.fpuBranchLikely true imm

/-- R442, LWC1: load a word into floating-point register `ft`. -/
def execLwc1 (ft base : RegIdx) (imm : BitVec 16) (s : State) : Result := s.fpuLoad .word ft base imm

/-- R443, LDC1: load a doubleword into floating-point register `ft`. -/
def execLdc1 (ft base : RegIdx) (imm : BitVec 16) (s : State) : Result := s.fpuLoad .dword ft base imm

/-- R444, SWC1: store a word from floating-point register `ft`. -/
def execSwc1 (ft base : RegIdx) (imm : BitVec 16) (s : State) : Result := s.fpuStore .word ft base imm

/-- R445, SDC1: store a doubleword from floating-point register `ft`. -/
def execSdc1 (ft base : RegIdx) (imm : BitVec 16) (s : State) : Result := s.fpuStore .dword ft base imm

/-- R448, COP1.S: any operate instruction in the single-precision (S) format. -/
def execCop1S (copFn : BitVec 21) (s : State) : Result := s.fpuOperate (encode (.cop1S copFn))

/-- R449, COP1.D: any operate instruction in the double-precision (D) format. -/
def execCop1D (copFn : BitVec 21) (s : State) : Result := s.fpuOperate (encode (.cop1D copFn))

/-- R450, COP1.W: any operate instruction in the 32-bit fixed-point (W) format. -/
def execCop1W (copFn : BitVec 21) (s : State) : Result := s.fpuOperate (encode (.cop1W copFn))

/-- R451, COP1.L: any operate instruction in the 64-bit fixed-point (L) format. -/
def execCop1L (copFn : BitVec 21) (s : State) : Result := s.fpuOperate (encode (.cop1L copFn))

end Sys2Proof.Machine
end

