-- ==== Sys2Proof/Machine/LoadStore.lean ====
section
/-! DEFINITION. Loads, stores, LL and SC, CACHE and SYNC (43_load_store.md): one definition per instruction. -/

namespace Sys2Proof.Machine

/-- R322, LB: load byte, sign-extend. -/
def execLb (rt base : RegIdx) (imm : BitVec 16) (s : State) : Result := s.load .byte false rt base imm (sext 8)

/-- R323, LBU: load byte, zero-extend. -/
def execLbu (rt base : RegIdx) (imm : BitVec 16) (s : State) : Result := s.load .byte false rt base imm (zext 8)

/-- R324, LH: load halfword, sign-extend. -/
def execLh (rt base : RegIdx) (imm : BitVec 16) (s : State) : Result := s.load .half true rt base imm (sext 16)

/-- R325, LHU: load halfword, zero-extend. -/
def execLhu (rt base : RegIdx) (imm : BitVec 16) (s : State) : Result := s.load .half true rt base imm (zext 16)

/-- R326, LW: load word, sign-extend. -/
def execLw (rt base : RegIdx) (imm : BitVec 16) (s : State) : Result := s.load .word true rt base imm (sext 32)

/-- R327, LWU: load word, zero-extend. -/
def execLwu (rt base : RegIdx) (imm : BitVec 16) (s : State) : Result := s.load .word true rt base imm (zext 32)

/-- R328, LD: load doubleword. -/
def execLd (rt base : RegIdx) (imm : BitVec 16) (s : State) : Result := s.load .dword true rt base imm id

/-- R329, LWL: load word left: the bytes from `ea` to the end of its aligned word go to the most significant bytes
of the low word of `rt`. -/
def execLwl (rt base : RegIdx) (imm : BitVec 16) (s : State) : Result := s.loadMerged .word rt base imm lwlValue

/-- R330, LWR: load word right: the bytes from the start of the aligned word up to `ea` go to the least significant
bytes of `rt`. -/
def execLwr (rt base : RegIdx) (imm : BitVec 16) (s : State) : Result := s.loadMerged .word rt base imm lwrValue

/-- R331, LDL: load doubleword left. -/
def execLdl (rt base : RegIdx) (imm : BitVec 16) (s : State) : Result := s.loadMerged .dword rt base imm ldlValue

/-- R332, LDR: load doubleword right. -/
def execLdr (rt base : RegIdx) (imm : BitVec 16) (s : State) : Result := s.loadMerged .dword rt base imm ldrValue

/-- R333, SB: store the low byte of `rt`. -/
def execSb (rt base : RegIdx) (imm : BitVec 16) (s : State) : Result := s.store .byte false rt base imm

/-- R334, SH: store the low halfword of `rt`. -/
def execSh (rt base : RegIdx) (imm : BitVec 16) (s : State) : Result := s.store .half true rt base imm

/-- R336, SW: store the low word of `rt`. -/
def execSw (rt base : RegIdx) (imm : BitVec 16) (s : State) : Result := s.store .word true rt base imm

/-- R337, SD: store the doubleword `rt`. -/
def execSd (rt base : RegIdx) (imm : BitVec 16) (s : State) : Result := s.store .dword true rt base imm

/-- R338, SWL: store word left: the most significant bytes of the low word of `rt` go to the bytes from `ea` to the
end of its aligned word. -/
def execSwl (rt base : RegIdx) (imm : BitVec 16) (s : State) : Result := s.storeMerged .word rt base imm swlValue

/-- R339, SWR: store word right: the least significant bytes of `rt` go to the bytes from the start of the aligned
word up to `ea`. -/
def execSwr (rt base : RegIdx) (imm : BitVec 16) (s : State) : Result := s.storeMerged .word rt base imm swrValue

/-- R340, SDL: store doubleword left. -/
def execSdl (rt base : RegIdx) (imm : BitVec 16) (s : State) : Result := s.storeMerged .dword rt base imm sdlValue

/-- R341, SDR: store doubleword right. -/
def execSdr (rt base : RegIdx) (imm : BitVec 16) (s : State) : Result := s.storeMerged .dword rt base imm sdrValue

/-- R345, LL: load word and open a reservation. -/
def execLl (rt base : RegIdx) (imm : BitVec 16) (s : State) : Result := s.loadLinked .word rt base imm (sext 32)

/-- R346, LLD: load doubleword and open a reservation. -/
def execLld (rt base : RegIdx) (imm : BitVec 16) (s : State) : Result := s.loadLinked .dword rt base imm id

/-- R347, SC: store word if the reservation is still held; report in `rt`. -/
def execSc (rt base : RegIdx) (imm : BitVec 16) (s : State) : Result := s.storeConditional .word rt base imm

/-- R348, SCD: store doubleword if the reservation is still held; report in `rt`. -/
def execScd (rt base : RegIdx) (imm : BitVec 16) (s : State) : Result := s.storeConditional .dword rt base imm

/-- R349, CACHE: cache maintenance; a no-operation in this block (no effect: no address, no translation, no
exception). -/
def execCache (_op : BitVec 5) (_base : RegIdx) (_imm : BitVec 16) (s : State) : Result := .next s

/-- R350, SYNC: memory barrier; a no-operation in this block (no effect). -/
def execSync (s : State) : Result := .next s

end Sys2Proof.Machine
end

