-- ==== Sys2Proof/Machine/MulDiv.lean ====
section
/-! DEFINITION. Multiply, divide and the HI/LO registers (41_muldiv.md): one definition per instruction. -/

namespace Sys2Proof.Machine

/-- A pair of values for HI and LO. -/
structure HiLo where
  hi : DWord
  lo : DWord
  deriving DecidableEq, Repr

/-- `HI` and `LO` take a pair; the one effect of a multiply or divide (R260). -/
def State.putHiLo (p : HiLo) (s : State) : Result := .next (s.setHiLo p.hi p.lo)

/-- The mathematical product of two signed words, 64 bits, as sign-extended halves (R260, R262). -/
def multSigned32 (a b : Word) : HiLo where
  hi := sext 32 (BitVec.ofInt 64 (a.toInt * b.toInt) >>> 32)
  lo := sext 32 (BitVec.ofInt 64 (a.toInt * b.toInt))

/-- The mathematical product of two unsigned words, as sign-extended halves (R260, R263). -/
def multUnsigned32 (a b : Word) : HiLo where
  hi := sext 32 (BitVec.ofNat 64 (a.toNat * b.toNat) >>> 32)
  lo := sext 32 (BitVec.ofNat 64 (a.toNat * b.toNat))

/-- The mathematical product of two signed doublewords, 128 bits (R266). -/
def multSigned64 (a b : DWord) : HiLo where
  hi := (BitVec.ofInt 128 (a.toInt * b.toInt)).extractLsb' 64 64
  lo := (BitVec.ofInt 128 (a.toInt * b.toInt)).extractLsb' 0 64

/-- The mathematical product of two unsigned doublewords, 128 bits (R267). -/
def multUnsigned64 (a b : DWord) : HiLo where
  hi := (BitVec.ofNat 128 (a.toNat * b.toNat)).extractLsb' 64 64
  lo := (BitVec.ofNat 128 (a.toNat * b.toNat)).extractLsb' 0 64

/-- The quotient a signed division by zero leaves: -1 for a non-negative dividend, 1 for a negative one (R261). -/
def zeroQuotient (n : Int) : DWord := if 0 ≤ n then 0xFFFFFFFFFFFFFFFF#64 else 1#64

/-- Signed 32-bit division (R264): the laws of R261, then truncation toward zero. -/
def divSigned32 (a b : Word) : HiLo :=
  if b.toInt = 0 then ⟨sext 32 a, zeroQuotient a.toInt⟩
  else if a.toInt = -2 ^ 31 ∧ b.toInt = -1 then ⟨0, 0xFFFFFFFF80000000#64⟩
  else
    ⟨sext 32 (BitVec.ofInt 32 (a.toInt - Int.tdiv a.toInt b.toInt * b.toInt)),
      sext 32 (BitVec.ofInt 32 (Int.tdiv a.toInt b.toInt))⟩

/-- Unsigned 32-bit division (R265). -/
def divUnsigned32 (a b : Word) : HiLo :=
  if b.toNat = 0 then ⟨sext 32 a, 0xFFFFFFFFFFFFFFFF#64⟩
  else ⟨sext 32 (BitVec.ofNat 32 (a.toNat % b.toNat)), sext 32 (BitVec.ofNat 32 (a.toNat / b.toNat))⟩

/-- Signed 64-bit division (R268): the laws of R261, then truncation toward zero. -/
def divSigned64 (a b : DWord) : HiLo :=
  if b.toInt = 0 then ⟨a, zeroQuotient a.toInt⟩
  else if a.toInt = -2 ^ 63 ∧ b.toInt = -1 then ⟨0, a⟩
  else
    ⟨BitVec.ofInt 64 (a.toInt - Int.tdiv a.toInt b.toInt * b.toInt), BitVec.ofInt 64 (Int.tdiv a.toInt b.toInt)⟩

/-- Unsigned 64-bit division (R269). -/
def divUnsigned64 (a b : DWord) : HiLo :=
  if b.toNat = 0 then ⟨a, 0xFFFFFFFFFFFFFFFF#64⟩
  else ⟨BitVec.ofNat 64 (a.toNat % b.toNat), BitVec.ofNat 64 (a.toNat / b.toNat)⟩

/-- R262, MULT: signed 32 x 32 -> 64 multiply into `HI`:`LO`. -/
def execMult (rs rt : RegIdx) (s : State) : Result :=
  s.putHiLo (multSigned32 (low32 (s.readReg rs)) (low32 (s.readReg rt)))

/-- R263, MULTU: unsigned 32 x 32 -> 64 multiply into `HI`:`LO`. -/
def execMultu (rs rt : RegIdx) (s : State) : Result :=
  s.putHiLo (multUnsigned32 (low32 (s.readReg rs)) (low32 (s.readReg rt)))

/-- R264, DIV: signed 32-bit divide, quotient to `LO`, remainder to `HI`. -/
def execDiv (rs rt : RegIdx) (s : State) : Result :=
  s.putHiLo (divSigned32 (low32 (s.readReg rs)) (low32 (s.readReg rt)))

/-- R265, DIVU: unsigned 32-bit divide. -/
def execDivu (rs rt : RegIdx) (s : State) : Result :=
  s.putHiLo (divUnsigned32 (low32 (s.readReg rs)) (low32 (s.readReg rt)))

/-- R266, DMULT: signed 64 x 64 -> 128 multiply into `HI`:`LO`. -/
def execDmult (rs rt : RegIdx) (s : State) : Result := s.putHiLo (multSigned64 (s.readReg rs) (s.readReg rt))

/-- R267, DMULTU: unsigned 64 x 64 -> 128 multiply into `HI`:`LO`. -/
def execDmultu (rs rt : RegIdx) (s : State) : Result := s.putHiLo (multUnsigned64 (s.readReg rs) (s.readReg rt))

/-- R268, DDIV: signed 64-bit divide. -/
def execDdiv (rs rt : RegIdx) (s : State) : Result := s.putHiLo (divSigned64 (s.readReg rs) (s.readReg rt))

/-- R269, DDIVU: unsigned 64-bit divide. -/
def execDdivu (rs rt : RegIdx) (s : State) : Result := s.putHiLo (divUnsigned64 (s.readReg rs) (s.readReg rt))

/-- R270, MFHI: copy `HI` to a general register. -/
def execMfhi (rd : RegIdx) (s : State) : Result := s.put rd s.hi

/-- R271, MTHI: copy a general register to `HI`. -/
def execMthi (rs : RegIdx) (s : State) : Result := .next (s.setHi (s.readReg rs))

/-- R272, MFLO: copy `LO` to a general register. -/
def execMflo (rd : RegIdx) (s : State) : Result := s.put rd s.lo

/-- R273, MTLO: copy a general register to `LO`. -/
def execMtlo (rs : RegIdx) (s : State) : Result := .next (s.setLo (s.readReg rs))

end Sys2Proof.Machine
end

