-- ==== Sys2Proof/Machine/Trap.lean ====
section
/-! DEFINITION. Conditional traps, SYSCALL and BREAK (44_trap_system.md). The software codes are ignored (R380): one
definition per instruction. -/

namespace Sys2Proof.Machine

/-- R381, TGE: trap if `rs` >= `rt`, signed. -/
def execTge (rs rt : RegIdx) (_code : BitVec 10) (s : State) : Result := s.trapIf (!(s.readReg rs).slt (s.readReg rt))

/-- R382, TGEU: trap if `rs` >= `rt`, unsigned. -/
def execTgeu (rs rt : RegIdx) (_code : BitVec 10) (s : State) : Result := s.trapIf (!(s.readReg rs).ult (s.readReg rt))

/-- R383, TLT: trap if `rs` < `rt`, signed. -/
def execTlt (rs rt : RegIdx) (_code : BitVec 10) (s : State) : Result := s.trapIf ((s.readReg rs).slt (s.readReg rt))

/-- R384, TLTU: trap if `rs` < `rt`, unsigned. -/
def execTltu (rs rt : RegIdx) (_code : BitVec 10) (s : State) : Result := s.trapIf ((s.readReg rs).ult (s.readReg rt))

/-- R385, TEQ: trap if `rs` equals `rt`. -/
def execTeq (rs rt : RegIdx) (_code : BitVec 10) (s : State) : Result := s.trapIf (s.readReg rs == s.readReg rt)

/-- R386, TNE: trap if `rs` differs from `rt`. -/
def execTne (rs rt : RegIdx) (_code : BitVec 10) (s : State) : Result := s.trapIf (s.readReg rs != s.readReg rt)

/-- R387, TGEI: trap if `rs` >= immediate, signed. -/
def execTgei (rs : RegIdx) (imm : BitVec 16) (s : State) : Result := s.trapIf (!(s.readReg rs).slt (simm imm))

/-- R388, TGEIU: trap if `rs` >= immediate, unsigned. -/
def execTgeiu (rs : RegIdx) (imm : BitVec 16) (s : State) : Result := s.trapIf (!(s.readReg rs).ult (simm imm))

/-- R389, TLTI: trap if `rs` < immediate, signed. -/
def execTlti (rs : RegIdx) (imm : BitVec 16) (s : State) : Result := s.trapIf ((s.readReg rs).slt (simm imm))

/-- R390, TLTIU: trap if `rs` < immediate, unsigned. -/
def execTltiu (rs : RegIdx) (imm : BitVec 16) (s : State) : Result := s.trapIf ((s.readReg rs).ult (simm imm))

/-- R391, TEQI: trap if `rs` equals the immediate. -/
def execTeqi (rs : RegIdx) (imm : BitVec 16) (s : State) : Result := s.trapIf (s.readReg rs == simm imm)

/-- R392, TNEI: trap if `rs` differs from the immediate. -/
def execTnei (rs : RegIdx) (imm : BitVec 16) (s : State) : Result := s.trapIf (s.readReg rs != simm imm)

/-- R393, SYSCALL: system call: enter the exception handler with code 8. -/
def execSyscall (_code : BitVec 20) (s : State) : Result := raiseHere .syscall 0 s

/-- R394, BREAK: breakpoint: enter the exception handler with code 9. -/
def execBrk (_code : BitVec 20) (s : State) : Result := raiseHere .breakpoint 0 s

end Sys2Proof.Machine
end

