-- ==== Sys2Proof/Machine/Dispatch.lean ====
section
/-! DEFINITION. The dispatch: one arm per constructor, each one direct call of that instruction's own meaning
(00_scope.md R11: the `Execute` of 10_state.md R26 step 8). -/

namespace Sys2Proof.Machine

def exec (i : Instr) (s : State) : Host.Outcome State Fault Refusal :=
  match i with
  | .add rd rs rt => Sys2Proof.Machine.execAdd rd rs rt s
  | .addu rd rs rt => Sys2Proof.Machine.execAddu rd rs rt s
  | .sub rd rs rt => Sys2Proof.Machine.execSub rd rs rt s
  | .subu rd rs rt => Sys2Proof.Machine.execSubu rd rs rt s
  | .addi rt rs imm => Sys2Proof.Machine.execAddi rt rs imm s
  | .addiu rt rs imm => Sys2Proof.Machine.execAddiu rt rs imm s
  | .dadd rd rs rt => Sys2Proof.Machine.execDadd rd rs rt s
  | .daddu rd rs rt => Sys2Proof.Machine.execDaddu rd rs rt s
  | .dsub rd rs rt => Sys2Proof.Machine.execDsub rd rs rt s
  | .dsubu rd rs rt => Sys2Proof.Machine.execDsubu rd rs rt s
  | .daddi rt rs imm => Sys2Proof.Machine.execDaddi rt rs imm s
  | .daddiu rt rs imm => Sys2Proof.Machine.execDaddiu rt rs imm s
  | .and rd rs rt => Sys2Proof.Machine.execAnd rd rs rt s
  | .or rd rs rt => Sys2Proof.Machine.execOr rd rs rt s
  | .xor rd rs rt => Sys2Proof.Machine.execXor rd rs rt s
  | .nor rd rs rt => Sys2Proof.Machine.execNor rd rs rt s
  | .andi rt rs imm => Sys2Proof.Machine.execAndi rt rs imm s
  | .ori rt rs imm => Sys2Proof.Machine.execOri rt rs imm s
  | .xori rt rs imm => Sys2Proof.Machine.execXori rt rs imm s
  | .lui rt imm => Sys2Proof.Machine.execLui rt imm s
  | .slt rd rs rt => Sys2Proof.Machine.execSlt rd rs rt s
  | .sltu rd rs rt => Sys2Proof.Machine.execSltu rd rs rt s
  | .slti rt rs imm => Sys2Proof.Machine.execSlti rt rs imm s
  | .sltiu rt rs imm => Sys2Proof.Machine.execSltiu rt rs imm s
  | .sll rd rt sa => Sys2Proof.Machine.execSll rd rt sa s
  | .srl rd rt sa => Sys2Proof.Machine.execSrl rd rt sa s
  | .sra rd rt sa => Sys2Proof.Machine.execSra rd rt sa s
  | .sllv rd rt rs => Sys2Proof.Machine.execSllv rd rt rs s
  | .srlv rd rt rs => Sys2Proof.Machine.execSrlv rd rt rs s
  | .srav rd rt rs => Sys2Proof.Machine.execSrav rd rt rs s
  | .dsll rd rt sa => Sys2Proof.Machine.execDsll rd rt sa s
  | .dsrl rd rt sa => Sys2Proof.Machine.execDsrl rd rt sa s
  | .dsra rd rt sa => Sys2Proof.Machine.execDsra rd rt sa s
  | .dsllv rd rt rs => Sys2Proof.Machine.execDsllv rd rt rs s
  | .dsrlv rd rt rs => Sys2Proof.Machine.execDsrlv rd rt rs s
  | .dsrav rd rt rs => Sys2Proof.Machine.execDsrav rd rt rs s
  | .dsll32 rd rt sa => Sys2Proof.Machine.execDsll32 rd rt sa s
  | .dsrl32 rd rt sa => Sys2Proof.Machine.execDsrl32 rd rt sa s
  | .dsra32 rd rt sa => Sys2Proof.Machine.execDsra32 rd rt sa s
  | .mult rs rt => Sys2Proof.Machine.execMult rs rt s
  | .multu rs rt => Sys2Proof.Machine.execMultu rs rt s
  | .div rs rt => Sys2Proof.Machine.execDiv rs rt s
  | .divu rs rt => Sys2Proof.Machine.execDivu rs rt s
  | .dmult rs rt => Sys2Proof.Machine.execDmult rs rt s
  | .dmultu rs rt => Sys2Proof.Machine.execDmultu rs rt s
  | .ddiv rs rt => Sys2Proof.Machine.execDdiv rs rt s
  | .ddivu rs rt => Sys2Proof.Machine.execDdivu rs rt s
  | .mfhi rd => Sys2Proof.Machine.execMfhi rd s
  | .mthi rs => Sys2Proof.Machine.execMthi rs s
  | .mflo rd => Sys2Proof.Machine.execMflo rd s
  | .mtlo rs => Sys2Proof.Machine.execMtlo rs s
  | .j target => Sys2Proof.Machine.execJ target s
  | .jal target => Sys2Proof.Machine.execJal target s
  | .jr rs => Sys2Proof.Machine.execJr rs s
  | .jalr rd rs => Sys2Proof.Machine.execJalr rd rs s
  | .beq rs rt imm => Sys2Proof.Machine.execBeq rs rt imm s
  | .bne rs rt imm => Sys2Proof.Machine.execBne rs rt imm s
  | .blez rs imm => Sys2Proof.Machine.execBlez rs imm s
  | .bgtz rs imm => Sys2Proof.Machine.execBgtz rs imm s
  | .beql rs rt imm => Sys2Proof.Machine.execBeql rs rt imm s
  | .bnel rs rt imm => Sys2Proof.Machine.execBnel rs rt imm s
  | .blezl rs imm => Sys2Proof.Machine.execBlezl rs imm s
  | .bgtzl rs imm => Sys2Proof.Machine.execBgtzl rs imm s
  | .bltz rs imm => Sys2Proof.Machine.execBltz rs imm s
  | .bgez rs imm => Sys2Proof.Machine.execBgez rs imm s
  | .bltzl rs imm => Sys2Proof.Machine.execBltzl rs imm s
  | .bgezl rs imm => Sys2Proof.Machine.execBgezl rs imm s
  | .bltzal rs imm => Sys2Proof.Machine.execBltzal rs imm s
  | .bgezal rs imm => Sys2Proof.Machine.execBgezal rs imm s
  | .bltzall rs imm => Sys2Proof.Machine.execBltzall rs imm s
  | .bgezall rs imm => Sys2Proof.Machine.execBgezall rs imm s
  | .lb rt base imm => Sys2Proof.Machine.execLb rt base imm s
  | .lbu rt base imm => Sys2Proof.Machine.execLbu rt base imm s
  | .lh rt base imm => Sys2Proof.Machine.execLh rt base imm s
  | .lhu rt base imm => Sys2Proof.Machine.execLhu rt base imm s
  | .lw rt base imm => Sys2Proof.Machine.execLw rt base imm s
  | .lwu rt base imm => Sys2Proof.Machine.execLwu rt base imm s
  | .ld rt base imm => Sys2Proof.Machine.execLd rt base imm s
  | .lwl rt base imm => Sys2Proof.Machine.execLwl rt base imm s
  | .lwr rt base imm => Sys2Proof.Machine.execLwr rt base imm s
  | .ldl rt base imm => Sys2Proof.Machine.execLdl rt base imm s
  | .ldr rt base imm => Sys2Proof.Machine.execLdr rt base imm s
  | .sb rt base imm => Sys2Proof.Machine.execSb rt base imm s
  | .sh rt base imm => Sys2Proof.Machine.execSh rt base imm s
  | .sw rt base imm => Sys2Proof.Machine.execSw rt base imm s
  | .sd rt base imm => Sys2Proof.Machine.execSd rt base imm s
  | .swl rt base imm => Sys2Proof.Machine.execSwl rt base imm s
  | .swr rt base imm => Sys2Proof.Machine.execSwr rt base imm s
  | .sdl rt base imm => Sys2Proof.Machine.execSdl rt base imm s
  | .sdr rt base imm => Sys2Proof.Machine.execSdr rt base imm s
  | .ll rt base imm => Sys2Proof.Machine.execLl rt base imm s
  | .lld rt base imm => Sys2Proof.Machine.execLld rt base imm s
  | .sc rt base imm => Sys2Proof.Machine.execSc rt base imm s
  | .scd rt base imm => Sys2Proof.Machine.execScd rt base imm s
  | .cache op base imm => Sys2Proof.Machine.execCache op base imm s
  | .sync => Sys2Proof.Machine.execSync s
  | .tge rs rt code => Sys2Proof.Machine.execTge rs rt code s
  | .tgeu rs rt code => Sys2Proof.Machine.execTgeu rs rt code s
  | .tlt rs rt code => Sys2Proof.Machine.execTlt rs rt code s
  | .tltu rs rt code => Sys2Proof.Machine.execTltu rs rt code s
  | .teq rs rt code => Sys2Proof.Machine.execTeq rs rt code s
  | .tne rs rt code => Sys2Proof.Machine.execTne rs rt code s
  | .tgei rs imm => Sys2Proof.Machine.execTgei rs imm s
  | .tgeiu rs imm => Sys2Proof.Machine.execTgeiu rs imm s
  | .tlti rs imm => Sys2Proof.Machine.execTlti rs imm s
  | .tltiu rs imm => Sys2Proof.Machine.execTltiu rs imm s
  | .teqi rs imm => Sys2Proof.Machine.execTeqi rs imm s
  | .tnei rs imm => Sys2Proof.Machine.execTnei rs imm s
  | .syscall code => Sys2Proof.Machine.execSyscall code s
  | .brk code => Sys2Proof.Machine.execBrk code s
  | .mfc0 rt rd => Sys2Proof.Machine.execMfc0 rt rd s
  | .dmfc0 rt rd => Sys2Proof.Machine.execDmfc0 rt rd s
  | .mtc0 rt rd => Sys2Proof.Machine.execMtc0 rt rd s
  | .dmtc0 rt rd => Sys2Proof.Machine.execDmtc0 rt rd s
  | .tlbr => Sys2Proof.Machine.execTlbr s
  | .tlbwi => Sys2Proof.Machine.execTlbwi s
  | .tlbwr => Sys2Proof.Machine.execTlbwr s
  | .tlbp => Sys2Proof.Machine.execTlbp s
  | .eret => Sys2Proof.Machine.execEret s
  | .mfc1 rt fs low => Sys2Proof.Machine.execMfc1 rt fs low s
  | .dmfc1 rt fs low => Sys2Proof.Machine.execDmfc1 rt fs low s
  | .cfc1 rt fs low => Sys2Proof.Machine.execCfc1 rt fs low s
  | .mtc1 rt fs low => Sys2Proof.Machine.execMtc1 rt fs low s
  | .dmtc1 rt fs low => Sys2Proof.Machine.execDmtc1 rt fs low s
  | .ctc1 rt fs low => Sys2Proof.Machine.execCtc1 rt fs low s
  | .bc1f imm => Sys2Proof.Machine.execBc1f imm s
  | .bc1t imm => Sys2Proof.Machine.execBc1t imm s
  | .bc1fl imm => Sys2Proof.Machine.execBc1fl imm s
  | .bc1tl imm => Sys2Proof.Machine.execBc1tl imm s
  | .lwc1 ft base imm => Sys2Proof.Machine.execLwc1 ft base imm s
  | .ldc1 ft base imm => Sys2Proof.Machine.execLdc1 ft base imm s
  | .swc1 ft base imm => Sys2Proof.Machine.execSwc1 ft base imm s
  | .sdc1 ft base imm => Sys2Proof.Machine.execSdc1 ft base imm s
  | .cop1S copFn => Sys2Proof.Machine.execCop1S copFn s
  | .cop1D copFn => Sys2Proof.Machine.execCop1D copFn s
  | .cop1W copFn => Sys2Proof.Machine.execCop1W copFn s
  | .cop1L copFn => Sys2Proof.Machine.execCop1L copFn s

end Sys2Proof.Machine
end

