-- ==== Sys2Proof/Machine/Fetch.lean ====
section
/-! DEFINITION. The front of a step (10_state.md R26 steps 1 to 5, 20_memory.md R118): the environment's events, the
delay-slot latch, and the fetch; and where a test places the word the next step fetches. `Step.lean` only calls these. -/

namespace Sys2Proof.Machine

/-- Step 1 of R26: `cur_ds <- delaySlot ; delaySlot <- 0`. -/
def State.latch (s : State) : State := { s with curDS := s.delaySlot, delaySlot := false }

/-- The state a step works on: the events of the gap before it have arrived (R10, log 9), and the latch is made. -/
def State.beginStep (s : State) : State := s.arrive.latch

/-- What a fetch answers: a word and the state after the read, an exception taken, or a halt. -/
inductive Fetched where
  | word (w : Word) (s : State)
  | raised (s : State)
  | halted (f : Fault)
  deriving DecidableEq, Repr

/-- Steps 2 to 4 of R26, which is R118: the address phase of a 4-byte load at `pc`, blamed on `pc`, then the read. -/
def State.fetch (s : State) : Fetched :=
  match locate .load .word true s.pc s.pc s with
  | .ok pa => .word (low32 (s.memRead pa .word).1) (s.memRead pa .word).2
  | .raised t => .raised t
  | .halted f => .halted f

/-- Step 5 of R26: the interrupt taken in place of the fetched instruction (R483). -/
def State.takeInterrupt (s : State) : State := s.raise .interrupt 0 s.pc s.curDS

/-- Where the next step fetches from, as a key of the memory; the reset window when the address does not translate. -/
def State.fetchKey (s : State) : PAddr :=
  match xlate .load s.beginStep.pc s.beginStep with
  | .ok pa => pa
  | .fail _ => 0x1FC00000#32
  | .undefinedMode => 0x1FC00000#32

/-- The memory with an instruction word stored big-endian at a physical address (R160). -/
def Memory.placeWord (m : Memory) (pa : PAddr) (w : Word) : Memory := m.write pa .word (w.setWidth 64)

end Sys2Proof.Machine
end

