-- ==== Sys2Proof/Machine/Step.lean ====
section
/-! DEFINITION. One step (10_state.md R26), and the placing of a word where the next step fetches. -/

namespace Sys2Proof.Machine

/-- Steps 6 to 8 of R26, for a fetched word: the triple advances, the word decodes or the machine halts, and the
instruction runs. -/
def stepWord (w : Word) (s : State) : Host.Outcome State Fault Refusal :=
  match decode w with
  | .ok i => exec i s.advance
  | .error _ => .fault (.reservedEncoding s.pc w)

/-- `Step()` (R26), after the environment's events of the gap before it (R10). -/
def step (s : State) : Host.Outcome State Fault Refusal :=
  match s.beginStep.fetch with
  | .word w t => if interruptDue t then .next t.takeInterrupt else stepWord w t
  | .raised t => .next t
  | .halted f => .fault f

/-- `s` with the word `w` of which the table gives `nbits` bits stored where the next step fetches: four bytes, the
machine's only length (R160), whatever stands there. It stands for a program loaded from outside (log 13). -/
def State.withFetchWord (s : State) (nbits w : Nat) : State :=
  { s with mem := s.mem.placeWord s.fetchKey (BitVec.ofNat 32 (w % 2 ^ nbits)) }

end Sys2Proof.Machine
end

