-- ==== Sys2Proof/Safety.lean ====
section
/-! DEFINITION. The terms the statements about the machine use: what every run keeps (`Inv`), what a step may leave
unchanged (`Same…`, `Only…`), and what an exception entry is, said field by field (`Entered`). -/

namespace Sys2Proof.Safety

open Sys2Proof.Machine

-- The invariant.

/-- No bit of `v` outside `mask` is set. -/
def Within {n : Nat} (mask v : BitVec n) : Prop := v &&& ~~~mask = 0#n

/-- The reserved bits of the COP0 registers read zero (10_state.md R31 to R45). -/
structure Cop0Inv (c : Cop0) : Prop where
  index : Within 0x8000003F#32 c.index
  entryLo0 : Within 0x3FFFFFFF#64 c.entryLo0
  entryLo1 : Within 0x3FFFFFFF#64 c.entryLo1
  context : Within 0xFFFFFFFFFFFFFFF0#64 c.context
  pageMask : Within 0x01FFE000#32 c.pageMask
  wired : Within 0x3F#32 c.wired
  entryHi : Within 0xC00000FFFFFFE0FF#64 c.entryHi
  status : Within 0xFF57FFFF#32 c.status
  cause : Within 0xB000FF7C#32 c.cause
  xContext : Within 0xFFFFFFFFFFFFFFF0#64 c.xContext

/-- An entry that was written has the page-number bits its own mask removes clear (45_cop0_tlb.md R406). -/
def TlbEntryInv (e : TlbEntry) : Prop := e.initialized = true → e.vpn2 &&& vpnMask e.mask = 0#27

/-- What every step keeps: the hard-wired register is zero in the file itself, memory has its canonical form, and the
reserved bits of COP0 and of the written TLB entries are zero. -/
structure Inv (s : State) : Prop where
  zero : s.gpr[0] = 0#64
  mem : s.mem.wf = true
  cop0 : Cop0Inv s.cop0
  tlb : ∀ i (h : i < 32), TlbEntryInv (s.tlb[i]'h)

-- What stays the same.

/-- Every general register reads as before. -/
def SameRegs (s t : State) : Prop := ∀ q, t.readReg q = s.readReg q

/-- HI and LO are as before. -/
def SameHiLo (s t : State) : Prop := t.hi = s.hi ∧ t.lo = s.lo

/-- The PC triple and the two delay-slot bits are as before. -/
def SamePC (s t : State) : Prop :=
  t.pc = s.pc ∧ t.nextPC = s.nextPC ∧ t.oldPC = s.oldPC ∧ t.delaySlot = s.delaySlot ∧ t.curDS = s.curDS

/-- The linked bit and the translation-failure latch are as before. -/
def SameLatches (s t : State) : Prop := t.llBit = s.llBit ∧ t.tlbError = s.tlbError

/-- Every byte of memory reads as before. -/
def SameBytes (s t : State) : Prop := ∀ a : PAddr, t.mem.readByte a = s.mem.readByte a

/-- What is no part of the block is as before: the parameters, the schedule, the calls made on outside agents, and the
number of draws. -/
def SameOutside (s t : State) : Prop :=
  t.params = s.params ∧ t.schedule = s.schedule ∧ t.ports = s.ports ∧ t.draws = s.draws

/-- `x[r]` reads `v` and every other register reads as before; when `r` is 0 nothing is written (10_state.md R20). -/
def RegWritten (r : RegIdx) (v : DWord) (s t : State) : Prop :=
  ∀ q, t.readReg q = if q = r ∧ r ≠ 0#5 then v else s.readReg q

/-- From `s` to `t` the one change is `x[r] <- v`. -/
structure OnlyReg (r : RegIdx) (v : DWord) (s t : State) : Prop where
  regs : RegWritten r v s t
  hilo : SameHiLo s t
  pcs : SamePC s t
  latches : SameLatches s t
  cop0 : t.cop0 = s.cop0
  tlb : t.tlb = s.tlb
  bytes : SameBytes s t
  outside : SameOutside s t

/-- From `s` to `t` the one change is `HI <- h` and `LO <- l`. -/
structure OnlyHiLo (h l : DWord) (s t : State) : Prop where
  regs : SameRegs s t
  hi : t.hi = h
  lo : t.lo = l
  pcs : SamePC s t
  latches : SameLatches s t
  cop0 : t.cop0 = s.cop0
  tlb : t.tlb = s.tlb
  bytes : SameBytes s t
  outside : SameOutside s t

/-- Everything but general registers and the PC side is as before. -/
structure OnlyControl (s t : State) : Prop where
  hilo : SameHiLo s t
  oldPC : t.oldPC = s.oldPC
  curDS : t.curDS = s.curDS
  latches : SameLatches s t
  cop0 : t.cop0 = s.cop0
  tlb : t.tlb = s.tlb
  bytes : SameBytes s t
  params : t.params = s.params
  schedule : t.schedule = s.schedule
  draws : t.draws = s.draws

/-- The next instruction is the delay slot, and after it control is at `after` (42_branch_jump.md R280). -/
def DelayThen (after : VAddr) (s t : State) : Prop := t.pc = s.pc ∧ t.nextPC = after ∧ t.delaySlot = true

/-- A branch: the delay slot runs next, then the target or what would have followed (R280). -/
def Branched (taken : Prop) (target : VAddr) (s t : State) : Prop :=
  (taken → DelayThen target s t) ∧ (¬taken → DelayThen s.nextPC s t)

/-- A likely branch: as a branch when taken; when not, the delay slot is skipped (R281). -/
def LikelyBranched (taken : Prop) (target : VAddr) (s t : State) : Prop :=
  (taken → DelayThen target s t)
    ∧ (¬taken → t.pc = s.nextPC ∧ t.nextPC = s.nextPC + 4#64 ∧ t.delaySlot = s.delaySlot)

/-- From `s` to `t` the one change is made by calls on outside agents: `ports` and nothing else. -/
structure OnlyPorts (ports : List Config.PortCall) (s t : State) : Prop where
  regs : SameRegs s t
  hilo : SameHiLo s t
  pcs : SamePC s t
  latches : SameLatches s t
  cop0 : t.cop0 = s.cop0
  tlb : t.tlb = s.tlb
  bytes : SameBytes s t
  params : t.params = s.params
  schedule : t.schedule = s.schedule
  ports : t.ports = ports
  draws : t.draws = s.draws

/-- Everything but general registers, memory and the calls on outside agents is as before. -/
structure OnlyRegMem (s t : State) : Prop where
  hilo : SameHiLo s t
  pcs : SamePC s t
  latches : SameLatches s t
  cop0 : t.cop0 = s.cop0
  tlb : t.tlb = s.tlb
  params : t.params = s.params
  schedule : t.schedule = s.schedule
  draws : t.draws = s.draws

/-- From `s` to `t` the one change is to COP0: it becomes `c`. -/
structure OnlyCop0 (c : Cop0) (s t : State) : Prop where
  regs : SameRegs s t
  hilo : SameHiLo s t
  pcs : SamePC s t
  latches : SameLatches s t
  cop0 : t.cop0 = c
  tlb : t.tlb = s.tlb
  bytes : SameBytes s t
  outside : SameOutside s t

/-- From `s` to `t` the one change is to the TLB: entry `i` becomes `e`; `draws` is the number of draws after it. -/
structure OnlyTlbEntry (i : Nat) (e : TlbEntry) (draws : Nat) (s t : State) : Prop where
  entry : ∀ h : i < 32, t.tlb[i]'h = e
  others : ∀ j (h : j < 32), j ≠ i → t.tlb[j]'h = s.tlb[j]'h
  regs : SameRegs s t
  hilo : SameHiLo s t
  pcs : SamePC s t
  latches : SameLatches s t
  cop0 : t.cop0 = s.cop0
  bytes : SameBytes s t
  params : t.params = s.params
  schedule : t.schedule = s.schedule
  ports : t.ports = s.ports
  draws : t.draws = draws

-- Exceptions.

/-- The COP0 registers that an exception entry leaves alone: all but Status, Cause and EPC (60_exceptions.md R472). -/
structure SameFaultRegs (c d : Cop0) : Prop where
  index : d.index = c.index
  entryLo0 : d.entryLo0 = c.entryLo0
  entryLo1 : d.entryLo1 = c.entryLo1
  context : d.context = c.context
  pageMask : d.pageMask = c.pageMask
  wired : d.wired = c.wired
  badVAddr : d.badVAddr = c.badVAddr
  count : d.count = c.count
  entryHi : d.entryHi = c.entryHi
  compare : d.compare = c.compare
  llAddr : d.llAddr = c.llAddr
  xContext : d.xContext = c.xContext
  errorEPC : d.errorEPC = c.errorEPC

/-- Where the handler of an exception taken in state `s` starts (R471): the base by Status.BEV; offset 0 or 0x80 for a
TLB load or store exception taken with EXL clear whose failure was not INVALID, 0x180 otherwise. -/
def HandlerAt (kind : ExcKind) (s : State) (va : VAddr) : Prop :=
  ∃ base off : VAddr, va = base + off
    ∧ (statusBEV s.cop0.status = true → base = 0xFFFFFFFFBFC00200#64)
    ∧ (statusBEV s.cop0.status = false → base = 0xFFFFFFFF80000000#64)
    ∧ ((kind = .tlbLoad ∨ kind = .tlbStore) ∧ statusEXL s.cop0.status = false ∧ s.tlbError ≠ some .invalid →
        off = if is64 s.cop0.status then 0x080#64 else 0x000#64)
    ∧ (¬((kind = .tlbLoad ∨ kind = .tlbStore) ∧ statusEXL s.cop0.status = false ∧ s.tlbError ≠ some .invalid) →
        off = 0x180#64)

/-- From `s` to `t` an exception is entered, blamed on `epcPc`, and nothing else happens (R470 to R472). -/
structure Entered (kind : ExcKind) (cop : BitVec 2) (epcPc : VAddr) (inDs : Bool) (s t : State) : Prop where
  /-- EXL is set and no other bit of Status changes. -/
  status : t.cop0.status = s.cop0.status ||| 0x00000002#32
  /-- With EXL clear before, EPC is the blamed address, or four below it in a delay slot. -/
  epc : statusEXL s.cop0.status = false → t.cop0.epc = if inDs then epcPc - 4#64 else epcPc
  /-- With EXL clear before, Cause.BD says whether it was in a delay slot. -/
  bd : statusEXL s.cop0.status = false → causeBD t.cop0.cause = inDs
  /-- With EXL set before, EPC keeps the outer exception's value. -/
  epcKept : statusEXL s.cop0.status = true → t.cop0.epc = s.cop0.epc
  /-- With EXL set before, Cause.BD keeps the outer exception's value. -/
  bdKept : statusEXL s.cop0.status = true → causeBD t.cop0.cause = causeBD s.cop0.cause
  /-- The exception's code. -/
  code : causeExcCode t.cop0.cause = kind.code
  /-- The coprocessor number. -/
  ce : causeCE t.cop0.cause = cop
  /-- Every other bit of Cause, the pending interrupts among them. -/
  cause : t.cop0.cause &&& 0x4FFFFF83#32 = s.cop0.cause &&& 0x4FFFFF83#32
  cop0 : SameFaultRegs s.cop0 t.cop0
  pc : HandlerAt kind s t.pc
  nextPC : t.nextPC = t.pc + 4#64
  oldPC : t.oldPC = s.oldPC
  delaySlot : t.delaySlot = s.delaySlot
  curDS : t.curDS = s.curDS
  regs : SameRegs s t
  hilo : SameHiLo s t
  latches : SameLatches s t
  tlb : t.tlb = s.tlb
  bytes : SameBytes s t
  outside : SameOutside s t

/-- Inside an instruction: the exception is blamed on the instruction itself, with its own delay-slot bit (00_scope.md
R8, 10_state.md R26). -/
def Raises (kind : ExcKind) (cop : BitVec 2) (s t : State) : Prop := Entered kind cop s.oldPC s.curDS s t

/-- The registers that identify a faulting address (20_memory.md R116), from `c` to `d`; every other register, and every
other bit of these, is as before. -/
structure FaultRecorded (va : VAddr) (c d : Cop0) : Prop where
  badVAddr : d.badVAddr = va
  contextBadVPN2 : d.context.extractLsb' 4 19 = va.extractLsb' 13 19
  contextRest : d.context &&& 0xFFFFFFFFFF80000F#64 = c.context &&& 0xFFFFFFFFFF80000F#64
  xContextBadVPN2 : d.xContext.extractLsb' 4 27 = va.extractLsb' 13 27
  xContextR : d.xContext.extractLsb' 31 2 = va.extractLsb' 62 2
  xContextRest : d.xContext &&& 0xFFFFFFFE0000000F#64 = c.xContext &&& 0xFFFFFFFE0000000F#64
  entryHiVPN2 : d.entryHi.extractLsb' 13 27 = va.extractLsb' 13 27
  entryHiR : d.entryHi.extractLsb' 62 2 = va.extractLsb' 62 2
  entryHiRest : d.entryHi &&& 0x3FFFFF0000001FFF#64 = c.entryHi &&& 0x3FFFFF0000001FFF#64
  index : d.index = c.index
  entryLo0 : d.entryLo0 = c.entryLo0
  entryLo1 : d.entryLo1 = c.entryLo1
  pageMask : d.pageMask = c.pageMask
  wired : d.wired = c.wired
  count : d.count = c.count
  compare : d.compare = c.compare
  status : d.status = c.status
  cause : d.cause = c.cause
  epc : d.epc = c.epc
  llAddr : d.llAddr = c.llAddr
  errorEPC : d.errorEPC = c.errorEPC

/-- From `s` to `t` an address fault at `va` is recorded, `tlb_error` becomes `err`, and then exception `kind` is entered,
blamed on `epcPc` (R94, R115 to R117). -/
def FaultEntered (kind : ExcKind) (va epcPc : VAddr) (err : Option TlbFail) (s t : State) : Prop :=
  ∃ c, FaultRecorded va s.cop0 c ∧ Entered kind 0#2 epcPc s.curDS { s with cop0 := c, tlbError := err } t

-- What an instruction does.

/-- `exec i s` answers a next state, and that state has `p`. -/
def Completes (i : Instr) (s : State) (p : State → Prop) : Prop := ∃ t, exec i s = .next t ∧ p t

/-- The instruction's one effect is `x[r] <- v`. -/
def Gives (i : Instr) (r : RegIdx) (v : DWord) (s : State) : Prop := Completes i s (OnlyReg r v s)

/-- A number is a two's-complement number of `w` bits (40_alu.md R200). -/
def Fits (w : Nat) (n : Int) : Prop := -(2 ^ (w - 1) : Int) ≤ n ∧ n < 2 ^ (w - 1)

/-- `signed(x[r])`. -/
def regInt (s : State) (r : RegIdx) : Int := (s.readReg r).toInt

/-- `unsigned(x[r])`. -/
def regNat (s : State) (r : RegIdx) : Nat := (s.readReg r).toNat

/-- `signed(x[r][31:0])`. -/
def lowInt (s : State) (r : RegIdx) : Int := (low32 (s.readReg r)).toInt

/-- `unsigned(x[r][31:0])`. -/
def lowNat (s : State) (r : RegIdx) : Nat := (low32 (s.readReg r)).toNat

/-- A 32-bit result as a register holds it: sign-extended, whatever the instruction's signedness (R201). -/
def wordResult (n : Int) : DWord := (BitVec.ofInt 32 n).signExtend 64

/-- A checking form of width `w` whose exact result is `n`: the result when it fits, Overflow and no result when it does
not (R200). -/
def ChecksOverflow (i : Instr) (w : Nat) (n : Int) (r : RegIdx) (s : State) : Prop :=
  (Fits w n → Gives i r (BitVec.ofInt 64 n) s) ∧ (¬Fits w n → Completes i s (Raises .overflow 0#2 s))

/-- A conditional trap: Trap when the condition holds, no effect at all when it does not (44_trap_system.md R380). -/
def TrapsWhen (i : Instr) (cond : Prop) (s : State) : Prop :=
  (cond → Completes i s (Raises .trap 0#2 s)) ∧ (¬cond → exec i s = .next s)

/-- A jump or branch that writes no register and makes no port call: `p` says where control goes. -/
def Moves (i : Instr) (s : State) (p : State → State → Prop) : Prop :=
  Completes i s fun t => p s t ∧ SameRegs s t ∧ t.ports = s.ports ∧ OnlyControl s t

/-- A linking jump or branch: `x[r]` takes the address after the delay slot (42_branch_jump.md R282). -/
def MovesAndLinks (i : Instr) (r : RegIdx) (s : State) (p : State → State → Prop) : Prop :=
  Completes i s fun t => p s t ∧ RegWritten r s.nextPC s t ∧ t.ports = s.ports ∧ OnlyControl s t

-- Memory instructions.

/-- A load of width `w` from `pa`: `x[r] <- v` and one port read. -/
structure Loaded (r : RegIdx) (v : DWord) (pa : PAddr) (w : Width) (s t : State) : Prop where
  reg : RegWritten r v s t
  bytes : SameBytes s t
  ports : t.ports = s.portsAfterRead pa w
  rest : OnlyRegMem s t

/-- `a` is none of the bytes of the datum of width `w` at `pa`. -/
def Outside (pa : PAddr) (w : Width) (a : PAddr) : Prop := w.bytes ≤ (a - pa).toNat

/-- Memory after one port write of `v`, width `w`, at `pa`: outside the datum no byte changes; in RAM its bytes are those
of `v`, most significant first; elsewhere no byte changes at all (20_memory.md R92, R93). -/
structure Written (pa : PAddr) (w : Width) (v : DWord) (s t : State) : Prop where
  outside : ∀ a, Outside pa w a → t.mem.readByte a = s.mem.readByte a
  ram : s.region pa = some .ram → ∀ k, k < w.bytes → t.mem.readByte (pa + BitVec.ofNat 32 k) = byteAt w v k
  other : s.region pa ≠ some .ram → SameBytes s t

/-- A store of width `w` at `pa`: one port write of the low bytes of `v`. -/
structure Stored (pa : PAddr) (w : Width) (v : DWord) (s t : State) : Prop where
  written : Written pa w v s t
  regs : SameRegs s t
  ports : t.ports = s.portsAfterWrite pa w v
  rest : OnlyRegMem s t

/-- A left or right load from the aligned datum at `p`: `x[r]` takes a value whose byte `k` is `new k`; `n` bytes count,
from the most significant. -/
def LoadedBytes (r : RegIdx) (w : Width) (p : PAddr) (new : Nat → Byte) (s t : State) : Prop :=
  ∃ v, (∀ k, k < w.bytes → byteAt w v k = new k) ∧ (w = .word → v = (low32 v).signExtend 64) ∧ Loaded r v p w s t

/-- A left or right store into the aligned datum at `p` (43_load_store.md R335, R342): byte `j` of the datum is `new j`
afterwards when it stands in RAM, and no other byte changes; one read and then one write at the port. -/
def StoredBytes (w : Width) (p : PAddr) (new : Nat → Byte) (s t : State) : Prop :=
  ∃ v, (∀ j, j < w.bytes → byteAt w v j = new j) ∧ Written p w v s t ∧ SameRegs s t
    ∧ t.ports = (s.memRead p w).2.portsAfterWrite p w v ∧ OnlyRegMem s t

/-- Byte `k` of the datum of width `w` that a port read at `p` gives. -/
def datumByte (s : State) (p : PAddr) (w : Width) (k : Nat) : Byte := byteAt w (s.memReadValue p w) k

/-- Byte `k` of the low datum of width `w` of `x[r]`. -/
def regByte (s : State) (r : RegIdx) (w : Width) (k : Nat) : Byte := byteAt w (s.readReg r) k

/-- `ea mod n`, for an access of `n` bytes. -/
def offsetIn (w : Width) (ea : VAddr) : Nat := ea.toNat % w.bytes

/-- A load that opens the reservation (R343, R345). -/
structure LinkedLoaded (r : RegIdx) (v : DWord) (pa : PAddr) (w : Width) (s t : State) : Prop where
  reg : RegWritten r v s t
  bytes : SameBytes s t
  ports : t.ports = s.portsAfterRead pa w
  llBit : t.llBit = true
  cop0 : t.cop0 = { s.cop0 with llAddr := pa >>> 4 }
  tlbError : t.tlbError = s.tlbError
  hilo : SameHiLo s t
  pcs : SamePC s t
  tlb : t.tlb = s.tlb
  params : t.params = s.params
  schedule : t.schedule = s.schedule
  draws : t.draws = s.draws

/-- A conditional store (R347): stored when the reservation is held, not otherwise; reported and cleared either way. -/
structure Conditional (r : RegIdx) (pa : PAddr) (w : Width) (s t : State) : Prop where
  held : s.llBit = true → Written pa w (s.readReg r) s t ∧ t.ports = s.portsAfterWrite pa w (s.readReg r)
  lost : s.llBit = false → SameBytes s t ∧ t.ports = s.ports
  report : RegWritten r (if s.llBit then 1#64 else 0#64) s t
  llBit : t.llBit = false
  tlbError : t.tlbError = s.tlbError
  hilo : SameHiLo s t
  pcs : SamePC s t
  cop0 : t.cop0 = s.cop0
  tlb : t.tlb = s.tlb
  params : t.params = s.params
  schedule : t.schedule = s.schedule
  draws : t.draws = s.draws

/-- What a data access needs: its kind, its width, whether alignment is checked, its base register and offset. -/
structure DataAccess where
  kind : Access
  width : Width
  checked : Bool
  base : RegIdx
  imm : BitVec 16
  deriving DecidableEq, Repr

/-- The data access each load and store makes (20_memory.md R94, R95); none for the other instructions. -/
def accessOf : Instr → Option DataAccess
  | .lb _ b imm => some ⟨.load, .byte, false, b, imm⟩
  | .lbu _ b imm => some ⟨.load, .byte, false, b, imm⟩
  | .lh _ b imm => some ⟨.load, .half, true, b, imm⟩
  | .lhu _ b imm => some ⟨.load, .half, true, b, imm⟩
  | .lw _ b imm => some ⟨.load, .word, true, b, imm⟩
  | .lwu _ b imm => some ⟨.load, .word, true, b, imm⟩
  | .ld _ b imm => some ⟨.load, .dword, true, b, imm⟩
  | .ll _ b imm => some ⟨.load, .word, true, b, imm⟩
  | .lld _ b imm => some ⟨.load, .dword, true, b, imm⟩
  | .lwc1 _ b imm => some ⟨.load, .word, true, b, imm⟩
  | .ldc1 _ b imm => some ⟨.load, .dword, true, b, imm⟩
  | .lwl _ b imm => some ⟨.load, .word, false, b, imm⟩
  | .lwr _ b imm => some ⟨.load, .word, false, b, imm⟩
  | .ldl _ b imm => some ⟨.load, .dword, false, b, imm⟩
  | .ldr _ b imm => some ⟨.load, .dword, false, b, imm⟩
  | .sb _ b imm => some ⟨.store, .byte, false, b, imm⟩
  | .sh _ b imm => some ⟨.store, .half, true, b, imm⟩
  | .sw _ b imm => some ⟨.store, .word, true, b, imm⟩
  | .sd _ b imm => some ⟨.store, .dword, true, b, imm⟩
  | .sc _ b imm => some ⟨.store, .word, true, b, imm⟩
  | .scd _ b imm => some ⟨.store, .dword, true, b, imm⟩
  | .swc1 _ b imm => some ⟨.store, .word, true, b, imm⟩
  | .sdc1 _ b imm => some ⟨.store, .dword, true, b, imm⟩
  | .swl _ b imm => some ⟨.store, .word, false, b, imm⟩
  | .swr _ b imm => some ⟨.store, .word, false, b, imm⟩
  | .sdl _ b imm => some ⟨.store, .dword, false, b, imm⟩
  | .sdr _ b imm => some ⟨.store, .dword, false, b, imm⟩
  | _ => none

/-- The rows R178 lists as ending a block (30_encoding.md): jumps, branches, traps, SYSCALL, BREAK, ERET, and the
floating-point branches; every other row does not. -/
def listedBlockEnder : Instr → Bool
  | .j _ | .jal _ | .jr _ | .jalr _ _ => true
  | .beq _ _ _ | .bne _ _ _ | .blez _ _ | .bgtz _ _ | .beql _ _ _ | .bnel _ _ _ | .blezl _ _ | .bgtzl _ _ => true
  | .bltz _ _ | .bgez _ _ | .bltzl _ _ | .bgezl _ _ | .bltzal _ _ | .bgezal _ _ | .bltzall _ _ | .bgezall _ _ => true
  | .tge _ _ _ | .tgeu _ _ _ | .tlt _ _ _ | .tltu _ _ _ | .teq _ _ _ | .tne _ _ _ => true
  | .tgei _ _ | .tgeiu _ _ | .tlti _ _ | .tltiu _ _ | .teqi _ _ | .tnei _ _ => true
  | .syscall _ | .brk _ | .eret => true
  | .bc1f _ | .bc1t _ | .bc1fl _ | .bc1tl _ => true
  | _ => false

/-- The exception a failed translation raises (R115); a load never fails with MODIFICATION. -/
def faultKind : TlbFail → Access → ExcKind
  | .miss, .load => .tlbLoad
  | .miss, .store => .tlbStore
  | .invalid, .load => .tlbLoad
  | .invalid, .store => .tlbStore
  | .modification, .load => .tlbLoad
  | .modification, .store => .tlbModification
  | .disallowedAddress, .load => .addressErrorLoad
  | .disallowedAddress, .store => .addressErrorStore

-- The system coprocessor.

/-- The move-to forms: `f n` writes register number `n`, and hands it `v` (45_cop0_tlb.md R403, R404). -/
def MovesTo (rt : RegIdx) (s : State) (f : RegIdx → Instr) (v : DWord) : Prop :=
  (f = Instr.mtc0 rt ∧ v = (low32 (s.readReg rt)).signExtend 64) ∨ (f = Instr.dmtc0 rt ∧ v = s.readReg rt)

/-- `(reg & ~mask) | (value & mask)` (R409). -/
def underMask {n : Nat} (mask old v : BitVec n) : BitVec n := (old &&& ~~~mask) ||| (v &&& mask)

/-- A move-from gives `x[r] <- v`; the only other change is in the number of draws (R407). -/
structure MovedFrom (r : RegIdx) (v : DWord) (draws : Nat) (s t : State) : Prop where
  reg : RegWritten r v s t
  bytes : SameBytes s t
  ports : t.ports = s.ports
  draws : t.draws = draws
  hilo : SameHiLo s t
  pcs : SamePC s t
  latches : SameLatches s t
  cop0 : t.cop0 = s.cop0
  tlb : t.tlb = s.tlb
  params : t.params = s.params
  schedule : t.schedule = s.schedule

/-- Both move-from forms give the 64-bit value `v` of register number `n`: the 32-bit one its low word, sign-extended. -/
def ReadsAs (n : RegIdx) (v : DWord) (draws : Nat) (s : State) : Prop :=
  ∀ rt, Completes (.dmfc0 rt n) s (MovedFrom rt v draws s)
    ∧ Completes (.mfc0 rt n) s (MovedFrom rt ((low32 v).signExtend 64) draws s)

/-- The entry that the staging registers describe (R406). -/
structure StagedAs (c : Cop0) (e : TlbEntry) : Prop where
  initialized : e.initialized = true
  mask : e.mask = c.pageMask.extractLsb' 13 12
  r : e.r = c.entryHi.extractLsb' 62 2
  vpn2 : e.vpn2 = c.entryHi.extractLsb' 13 27 &&& ~~~(e.mask.setWidth 27)
  asid : e.asid = c.entryHi.extractLsb' 0 8
  g : e.g = (c.entryLo0.getLsbD 0 && c.entryLo1.getLsbD 0)
  even : e.even = ⟨c.entryLo0.extractLsb' 6 24, c.entryLo0.extractLsb' 3 3, c.entryLo0.getLsbD 2, c.entryLo0.getLsbD 1⟩
  odd : e.odd = ⟨c.entryLo1.extractLsb' 6 24, c.entryLo1.extractLsb' 3 3, c.entryLo1.getLsbD 2, c.entryLo1.getLsbD 1⟩

/-- `va` lies in a Mapped segment of mode `m`: by its low word in 32-bit addressing (20_memory.md R103), by all its bits in
64-bit addressing (R104). -/
def InMapped (m : Mode) (wide : Bool) (va : VAddr) : Prop :=
  if wide then
    va.toNat ≤ 0x000000FFFFFFFFFF
      ∨ (m ≠ .user ∧ 0x4000000000000000 ≤ va.toNat ∧ va.toNat ≤ 0x400000FFFFFFFFFF)
      ∨ (m = .kernel ∧ 0xC000000000000000 ≤ va.toNat ∧ va.toNat ≤ 0xC00000FF7FFFFFFF)
      ∨ (m ≠ .user ∧ 0xFFFFFFFFC0000000 ≤ va.toNat ∧ va.toNat ≤ 0xFFFFFFFFDFFFFFFF)
      ∨ (m = .kernel ∧ 0xFFFFFFFFE0000000 ≤ va.toNat)
  else
    (low32 va).toNat ≤ 0x7FFFFFFF
      ∨ (m ≠ .user ∧ 0xC0000000 ≤ (low32 va).toNat ∧ (low32 va).toNat ≤ 0xDFFFFFFF)
      ∨ (m = .kernel ∧ 0xE0000000 ≤ (low32 va).toNat)

/-- Entry `e` matches address `va` in address space `asid` (20_memory.md R108 a to d). -/
def Matches (e : TlbEntry) (asid : BitVec 8) (va : VAddr) : Prop :=
  e.initialized = true ∧ e.r = va.extractLsb' 62 2
    ∧ e.vpn2 &&& ~~~(e.mask.setWidth 27) = va.extractLsb' 13 27 &&& ~~~(e.mask.setWidth 27)
    ∧ (e.g = true ∨ e.asid = asid)

/-- Entry `i` is the first of the TLB that matches (R114). -/
def FirstMatch (s : State) (asid : BitVec 8) (va : VAddr) (i : Nat) : Prop :=
  ∃ h : i < 32, Matches (s.tlb[i]'h) asid va ∧ ∀ j (hj : j < i), ¬Matches (s.tlb[j]'(by omega)) asid va

/-- No entry of the TLB matches. -/
def NoMatch (s : State) (asid : BitVec 8) (va : VAddr) : Prop := ∀ i (h : i < 32), ¬Matches (s.tlb[i]'h) asid va

/-- The instructions of the system coprocessor (R400). -/
def IsCop0 (i : Instr) : Prop := i.cls = .cop0

/-- The instructions of the floating-point interface (46_cop1_interface.md R430). -/
def IsCop1 (i : Instr) : Prop := i.cls = .fpu ∨ i.cls = .fpuBranch ∨ i.cls = .fpuMem

/-- A call the FPU answers (46_cop1_interface.md R431): the call is recorded; FloatingPoint is raised when it answers
`fpe` (R453), and nothing else happens when it does not. The answer is free (log 7). -/
def FpuAsked (c : Config.PortCall) (s t : State) : Prop :=
  (Config.answerFpe (c :: s.ports) = false → OnlyPorts (c :: s.ports) s t)
    ∧ (Config.answerFpe (c :: s.ports) = true → Raises .floatingPoint 0#2 { s with ports := c :: s.ports } t)

end Sys2Proof.Safety
end

