-- ==== Sys2Proof/WellFormed.lean ====
section
/-! DEFINITION. Well-formed terms. An operand's width is its type, so every `Instr` is the reading of some word and
`Instr.wellFormed` has nothing left to refuse (log 15). The platform's map is data a launch supplies, and has terms that
make no sense: those are refused here. -/

namespace Sys2Proof

/-- Every instruction term is well formed: each operand has exactly the bits of its field (R161, R162). -/
def Instr.wellFormed (_ : Instr) : Bool := true

namespace Config

/-- A region lies inside the 32-bit physical space (R90), is not empty, and starts and ends on a doubleword boundary,
so that no aligned port call (R92) straddles its edge. -/
def Region.wellFormed (r : Region) : Bool :=
  decide (0 < r.size) && decide (r.base + r.size ≤ 2 ^ 32) && decide (r.base % 8 = 0) && decide (r.size % 8 = 0)

/-- Two regions share no address. -/
def Region.disjoint (r q : Region) : Bool :=
  decide (r.base + r.size ≤ q.base) || decide (q.base + q.size ≤ r.base)

/-- A partition of the physical space (R91): every region makes sense and no two overlap. -/
def mapWellFormed : List Region → Bool
  | [] => true
  | r :: rs => r.wellFormed && rs.all r.disjoint && mapWellFormed rs

/-- The boot ROM holds the first word the machine fetches after reset (R91, R522). -/
def hasBootROM (map : List Region) : Bool :=
  map.any fun r => decide (r.kind = .rom) && decide (r.base ≤ resetAddress) && decide (resetAddress + 4 ≤ r.base + r.size)

/-- Parameters a launch may supply: a partition that makes sense, with boot ROM at the reset address. -/
def Params.wellFormed (p : Params) : Bool := mapWellFormed p.map && hasBootROM p.map

end Config

end Sys2Proof
end

