-- ==== Sys2Proof/Certificates/Slice0/Obligations.lean ====
section
/-! DEFINITION. The statements for the provers. Each docstring says which part of the spec it formalises; a statement
that rests on a choice of the model names the log entry. -/

open Sys2Proof Sys2Proof.Machine Sys2Proof.Safety

-- Encoding (30_encoding.md).

/-- Decoding the encoder's word gives the instruction back, for every instruction and every value of every operand; the
word has the bits of that instruction's own row of the opcode table. (30_encoding.md R161 to R170.) -/
def Obligations.DecodeOfEncode : Prop :=
  ∀ i : Instr, i.wellFormed = true → decode (encode i) = .ok i ∧ encode i &&& i.row.mask = i.row.value

/-- A word decodes to an instruction of the row it matches, and encoding that instruction gives the word back, but for the
bits R171 lists as ignored; a word that matches the row of any instruction decodes, to an instruction of that row: no row
is missed and no two rows share a word. (R170 to R172.) -/
def Obligations.DecodePicksTheRow : Prop :=
  ∀ (w : Word) (i : Instr),
    (decode w = .ok i → w &&& i.row.mask = i.row.value ∧ encode i = w &&& i.careMask)
      ∧ (w &&& i.row.mask = i.row.value → ∃ j, decode w = .ok j ∧ j.row = i.row)

/-- A few words written out from the encodings of the spec's own examples. -/
def Obligations.KnownWordsDecode : Prop :=
  decode 0x00221820#32 = .ok (.add 3 1 2) ∧ decode 0x0022001A#32 = .ok (.div 1 2)
    ∧ decode 0x08000100#32 = .ok (.j 0x100) ∧ decode 0x88230001#32 = .ok (.lwl 3 1 1)
    ∧ decode 0x00220030#32 = .ok (.tge 1 2 0) ∧ decode 0x40817000#32 = .ok (.mtc0 1 14)
    ∧ decode 0x42000018#32 = .ok .eret ∧ decode 0x45000010#32 = .ok (.bc1f 0x10)

-- Reset (70_reset_and_hazards.md R520 to R522).

/-- Reset leaves what the table of 10_state.md R70 states, whatever the launch state was, and the first fetch address
translates to physical 0x1FC00000 in both addressing widths. Everything the table leaves unspecified is the launch state's,
register by register and field by field, with the reserved bits zero, and so is what is no part of the block; `cur_ds` is
cleared (the model's choices, log 1, log 11 and log 20). The launch state's Cause.IP[6:2] stands for the level of the
external lines that the table puts there (the model's choice, log 19). In the model's own reset state boot ROM stands behind that address
(R91, R522), up to the end of what kseg1 reaches, and RAM everywhere else (the model's choice, log 3). -/
def Obligations.ResetValues : Prop :=
  ∀ u : State,
    u.resetFrom.readReg 0 = 0 ∧ (∀ r : RegIdx, r ≠ 0 → u.resetFrom.readReg r = u.readReg r)
      ∧ u.resetFrom.pc = 0xFFFFFFFFBFC00000#64 ∧ u.resetFrom.nextPC = 0xFFFFFFFFBFC00004#64
      ∧ u.resetFrom.delaySlot = false ∧ u.resetFrom.tlbError = none
      ∧ statusERL u.resetFrom.cop0.status = true ∧ statusBEV u.resetFrom.cop0.status = true
      ∧ u.resetFrom.cop0.status.getLsbD 20 = false ∧ u.resetFrom.cop0.status.getLsbD 21 = false
      ∧ u.resetFrom.cop0.status.getLsbD 27 = false ∧ u.resetFrom.cop0.wired = 0
      ∧ (∀ i (h : i < 32), (u.resetFrom.tlb[i]'h).initialized = false)
      ∧ modeOf u.resetFrom.cop0.status = some .kernel ∧ interruptDue u.resetFrom = false
      ∧ (∀ kind, xlate kind u.resetFrom.pc u.resetFrom = .ok 0x1FC00000#32)
      ∧ u.resetFrom.hi = u.hi ∧ u.resetFrom.lo = u.lo ∧ u.resetFrom.llBit = u.llBit
      ∧ u.resetFrom.oldPC = u.oldPC ∧ u.resetFrom.curDS = false
      ∧ u.resetFrom.cop0.status &&& 0xF707FFFB#32 = u.cop0.status &&& 0xF707FFFB#32
      ∧ u.resetFrom.cop0.status.getLsbD 19 = false ∧ u.resetFrom.cop0.status.getLsbD 23 = false
      ∧ u.resetFrom.cop0.cause = u.cop0.cause &&& 0xB000FF7C#32
      ∧ u.resetFrom.cop0.index = u.cop0.index &&& 0x8000003F#32
      ∧ u.resetFrom.cop0.entryLo0 = u.cop0.entryLo0 &&& 0x3FFFFFFF#64
      ∧ u.resetFrom.cop0.entryLo1 = u.cop0.entryLo1 &&& 0x3FFFFFFF#64
      ∧ u.resetFrom.cop0.context = u.cop0.context &&& 0xFFFFFFFFFFFFFFF0#64
      ∧ u.resetFrom.cop0.pageMask = u.cop0.pageMask &&& 0x01FFE000#32
      ∧ u.resetFrom.cop0.badVAddr = u.cop0.badVAddr ∧ u.resetFrom.cop0.count = u.cop0.count
      ∧ u.resetFrom.cop0.entryHi = u.cop0.entryHi &&& 0xC00000FFFFFFE0FF#64
      ∧ u.resetFrom.cop0.compare = u.cop0.compare ∧ u.resetFrom.cop0.epc = u.cop0.epc
      ∧ u.resetFrom.cop0.llAddr = u.cop0.llAddr
      ∧ u.resetFrom.cop0.xContext = u.cop0.xContext &&& 0xFFFFFFFFFFFFFFF0#64
      ∧ u.resetFrom.cop0.errorEPC = u.cop0.errorEPC
      ∧ (∀ i (h : i < 32), u.resetFrom.tlb[i]'h = { u.tlb[i]'h with initialized := false })
      ∧ SameBytes u u.resetFrom ∧ SameOutside u u.resetFrom
      ∧ ∀ pa : PAddr, State.reset.region pa =
          some (if 0x1FC00000 ≤ pa.toNat ∧ pa.toNat < 0x20000000 then .rom else .ram)

/-- Reset leaves a state that meets the invariant, whatever the launch state was, if its memory had the canonical form;
so does the model's own reset state. -/
def Obligations.ResetMeetsInvariant : Prop := (∀ u : State, u.mem.wf = true → Inv u.resetFrom) ∧ Inv State.reset

/-- Every step from a state that meets the invariant leads to one that meets it: `x[0]` stays zero in the file itself
(10_state.md R20), memory keeps its canonical form, the reserved bits of every COP0 register stay zero (R30 to R45), and
every written TLB entry keeps the masked bits of its page number clear (45_cop0_tlb.md R406). -/
def Obligations.StepKeepsInvariant : Prop := ∀ s t : State, Inv s → step s = .next t → Inv t

-- One step (10_state.md R26).

/-- A step runs the decoded instruction. First the environment's events of the gap arrive: those of the head of the
schedule, in their order, and the head is dropped; none when the schedule is empty (log 9). When, after them and the
delay-slot latch, the aligned `pc` translates to `pa`, no interrupt is due and the word read there decodes to `i`, the step
is `exec i` on the state whose PC triple has advanced (R26, steps 1 to 8); the read is one port call. A fetch from a device
window is recorded before the interrupt check, which reads nothing it writes (log 16). -/
def Obligations.StepRunsDecoded : Prop :=
  ∀ s u : State, u = s.arrive →
    (s.schedule = [] → u = s)
    ∧ (∀ (es : List EnvEvent) (rest : List (List EnvEvent)), s.schedule = es :: rest →
      u = { es.foldl (fun v e => v.applyEvent e) s with schedule := rest })
    ∧ ∀ (pa : PAddr) (i : Instr),
      aligned .word u.pc = true → xlate .load u.pc u = .ok pa → interruptDue u = false →
        decode (low32 (u.memReadValue pa .word)) = .ok i →
          step s = exec i
            { u with
              curDS := s.delaySlot, delaySlot := false, oldPC := s.pc, pc := s.nextPC, nextPC := s.nextPC + 4#64,
              ports := u.portsAfterRead pa .word }

/-- A fetch that succeeds while an interrupt is due takes the Interrupt exception in place of the instruction, whatever
the word is: it is blamed on the address fetched from and the instruction has no effect. (R26 step 5, 60_exceptions.md
R483.) -/
def Obligations.StepTakesInterrupt : Prop :=
  ∀ (s u : State) (pa : PAddr),
    u = s.arrive → aligned .word u.pc = true → xlate .load u.pc u = .ok pa → interruptDue u = true →
      ∃ t, step s = .next t
        ∧ Entered .interrupt 0#2 s.pc s.delaySlot
            { u with curDS := s.delaySlot, delaySlot := false, ports := u.portsAfterRead pa .word } t
        ∧ t.cop0.epc = (if s.delaySlot then s.pc - 4#64 else s.pc)

/-- A fetch that does not reach an instruction. A misaligned fetch address raises AddressErrorLoad, and one that does not
translate the exception R115 pairs with the failure: the address is recorded, both are blamed on it, and neither waits for
the interrupt check. A word that matches no row halts, with the address and the word, and so does a translation in no mode.
(R26 steps 2, 3 and 7, 30_encoding.md R172, 10_state.md R55, 60_exceptions.md R484.) -/
def Obligations.StepFetchFails : Prop :=
  ∀ s u : State, u = s.arrive →
    (aligned .word u.pc = false →
      ∃ t, step s = .next t ∧ FaultEntered .addressErrorLoad s.pc s.pc s.tlbError
        { u with curDS := s.delaySlot, delaySlot := false } t)
    ∧ (∀ k, aligned .word u.pc = true → xlate .load u.pc u = .fail k →
      ∃ t, step s = .next t ∧ FaultEntered (faultKind k .load) s.pc s.pc (some k)
        { u with curDS := s.delaySlot, delaySlot := false } t)
    ∧ (∀ (pa : PAddr) (w : Word), aligned .word u.pc = true → xlate .load u.pc u = .ok pa →
      interruptDue u = false → low32 (u.memReadValue pa .word) = w →
        (∀ i : Instr, w &&& i.row.mask ≠ i.row.value) → step s = .fault (.reservedEncoding s.pc w))
    ∧ (aligned .word u.pc = true → modeOf u.cop0.status = none → step s = .fault .undefinedMode)

-- General registers (10_state.md R20).

/-- `x[0]` reads zero and writes to it are discarded; every other register reads what was last written to it, a write
leaves all the others alone, and there is one bank: a read depends on the register file alone. -/
def Obligations.RegistersHoldAndZeroDiscards : Prop :=
  ∀ (s t : State) (r : RegIdx) (v : DWord),
    s.readReg 0 = 0 ∧ s.writeReg 0 v = s ∧ RegWritten r v s (s.writeReg r v)
      ∧ (t.gpr = s.gpr → t.readReg r = s.readReg r)

-- Integer arithmetic, logic, compare, shift (40_alu.md).

/-- ADD, ADDI, SUB and DADD, DADDI, DSUB: the exact sum or difference of the signed operands, the low words of the first
three, when it fits in the width, sign-extended; Overflow and no result when it does not. A destination of 0 still checks
(R200, R202). -/
def Obligations.CheckedArithmetic : Prop :=
  ∀ (s : State) (rd rs rt : RegIdx) (imm : BitVec 16),
    ChecksOverflow (.add rd rs rt) 32 (lowInt s rs + lowInt s rt) rd s
      ∧ ChecksOverflow (.addi rt rs imm) 32 (lowInt s rs + imm.toInt) rt s
      ∧ ChecksOverflow (.sub rd rs rt) 32 (lowInt s rs - lowInt s rt) rd s
      ∧ ChecksOverflow (.dadd rd rs rt) 64 (regInt s rs + regInt s rt) rd s
      ∧ ChecksOverflow (.daddi rt rs imm) 64 (regInt s rs + imm.toInt) rt s
      ∧ ChecksOverflow (.dsub rd rs rt) 64 (regInt s rs - regInt s rt) rd s

/-- ADDU, ADDIU, SUBU, DADDU, DADDIU and DSUBU never raise: the exact result wrapped to the width, a word result
sign-extended (R201). -/
def Obligations.UncheckedArithmetic : Prop :=
  ∀ (s : State) (rd rs rt : RegIdx) (imm : BitVec 16),
    Gives (.addu rd rs rt) rd (wordResult (lowInt s rs + lowInt s rt)) s
      ∧ Gives (.addiu rt rs imm) rt (wordResult (lowInt s rs + imm.toInt)) s
      ∧ Gives (.subu rd rs rt) rd (wordResult (lowInt s rs - lowInt s rt)) s
      ∧ Gives (.daddu rd rs rt) rd (BitVec.ofInt 64 (regInt s rs + regInt s rt)) s
      ∧ Gives (.daddiu rt rs imm) rt (BitVec.ofInt 64 (regInt s rs + imm.toInt)) s
      ∧ Gives (.dsubu rd rs rt) rd (BitVec.ofInt 64 (regInt s rs - regInt s rt)) s

/-- AND, OR, XOR, NOR, ANDI, ORI, XORI and LUI, bit by bit: the immediate forms extend with zeros; LUI fills the low half
with zeros and bits 63:32 with the immediate's top bit (R204). -/
def Obligations.LogicBitByBit : Prop :=
  ∀ (s : State) (rd rs rt : RegIdx) (imm : BitVec 16),
    (∃ v, Gives (.and rd rs rt) rd v s ∧ ∀ k < 64, v.getLsbD k = ((s.readReg rs).getLsbD k && (s.readReg rt).getLsbD k))
      ∧ (∃ v, Gives (.or rd rs rt) rd v s ∧ ∀ k < 64, v.getLsbD k = ((s.readReg rs).getLsbD k || (s.readReg rt).getLsbD k))
      ∧ (∃ v, Gives (.xor rd rs rt) rd v s ∧
          ∀ k < 64, v.getLsbD k = ((s.readReg rs).getLsbD k ^^ (s.readReg rt).getLsbD k))
      ∧ (∃ v, Gives (.nor rd rs rt) rd v s ∧
          ∀ k < 64, v.getLsbD k = !((s.readReg rs).getLsbD k || (s.readReg rt).getLsbD k))
      ∧ (∃ v, Gives (.andi rt rs imm) rt v s ∧ ∀ k < 64, v.getLsbD k = ((s.readReg rs).getLsbD k && imm.getLsbD k))
      ∧ (∃ v, Gives (.ori rt rs imm) rt v s ∧ ∀ k < 64, v.getLsbD k = ((s.readReg rs).getLsbD k || imm.getLsbD k))
      ∧ (∃ v, Gives (.xori rt rs imm) rt v s ∧ ∀ k < 64, v.getLsbD k = ((s.readReg rs).getLsbD k ^^ imm.getLsbD k))
      ∧ ∃ v, Gives (.lui rt imm) rt v s ∧
          ∀ k < 64, v.getLsbD k = if k < 16 then false else if k < 32 then imm.getLsbD (k - 16) else imm.getLsbD 15

/-- SLT, SLTU, SLTI and SLTIU compare all 64 bits as numbers and give 1 or 0; SLTIU extends its immediate by sign and
then compares unsigned (R204). -/
def Obligations.SetOnLess : Prop :=
  ∀ (s : State) (rd rs rt : RegIdx) (imm : BitVec 16),
    Gives (.slt rd rs rt) rd (if regInt s rs < regInt s rt then 1#64 else 0#64) s
      ∧ Gives (.sltu rd rs rt) rd (if regNat s rs < regNat s rt then 1#64 else 0#64) s
      ∧ Gives (.slti rt rs imm) rt (if regInt s rs < imm.toInt then 1#64 else 0#64) s
      ∧ Gives (.sltiu rt rs imm) rt (if regNat s rs < (imm.signExtend 64).toNat then 1#64 else 0#64) s

/-- The shifts as multiplication and division by a power of two (division rounds down). SLL, SRL, SLLV and SRLV work on the
low word, SRA and SRAV shift all 64 bits and keep the low word, and a word result is sign-extended; the nine others work on
64 bits. The variable forms take 5 or 6 bits of the count and the `32` forms add 32 to it. (R230 to R244.) -/
def Obligations.Shifts : Prop :=
  ∀ (s : State) (rd rs rt : RegIdx) (sa : BitVec 5),
    Gives (.sll rd rt sa) rd (wordResult (lowNat s rt * 2 ^ sa.toNat)) s
      ∧ Gives (.srl rd rt sa) rd (wordResult (lowNat s rt / 2 ^ sa.toNat)) s
      ∧ Gives (.sra rd rt sa) rd (wordResult (regInt s rt / 2 ^ sa.toNat)) s
      ∧ Gives (.sllv rd rt rs) rd (wordResult (lowNat s rt * 2 ^ (regNat s rs % 32))) s
      ∧ Gives (.srlv rd rt rs) rd (wordResult (lowNat s rt / 2 ^ (regNat s rs % 32))) s
      ∧ Gives (.srav rd rt rs) rd (wordResult (regInt s rt / 2 ^ (regNat s rs % 32))) s
      ∧ Gives (.dsll rd rt sa) rd (BitVec.ofNat 64 (regNat s rt * 2 ^ sa.toNat)) s
      ∧ Gives (.dsrl rd rt sa) rd (BitVec.ofNat 64 (regNat s rt / 2 ^ sa.toNat)) s
      ∧ Gives (.dsra rd rt sa) rd (BitVec.ofInt 64 (regInt s rt / 2 ^ sa.toNat)) s
      ∧ Gives (.dsllv rd rt rs) rd (BitVec.ofNat 64 (regNat s rt * 2 ^ (regNat s rs % 64))) s
      ∧ Gives (.dsrlv rd rt rs) rd (BitVec.ofNat 64 (regNat s rt / 2 ^ (regNat s rs % 64))) s
      ∧ Gives (.dsrav rd rt rs) rd (BitVec.ofInt 64 (regInt s rt / 2 ^ (regNat s rs % 64))) s
      ∧ Gives (.dsll32 rd rt sa) rd (BitVec.ofNat 64 (regNat s rt * 2 ^ (sa.toNat + 32))) s
      ∧ Gives (.dsrl32 rd rt sa) rd (BitVec.ofNat 64 (regNat s rt / 2 ^ (sa.toNat + 32))) s
      ∧ Gives (.dsra32 rd rt sa) rd (BitVec.ofInt 64 (regInt s rt / 2 ^ (sa.toNat + 32))) s

-- Multiply, divide, HI and LO (41_muldiv.md).

/-- MULT, MULTU, DMULT and DMULTU: HI and LO hold the two halves of the exact product; the halves of a 32-bit product are
sign-extended, also for MULTU (R260). -/
def Obligations.Multiply : Prop :=
  ∀ (s : State) (rs rt : RegIdx),
    (∃ h l : Word, Completes (.mult rs rt) s (OnlyHiLo (h.signExtend 64) (l.signExtend 64) s)
        ∧ h.toInt * 2 ^ 32 + l.toNat = lowInt s rs * lowInt s rt)
      ∧ (∃ h l : Word, Completes (.multu rs rt) s (OnlyHiLo (h.signExtend 64) (l.signExtend 64) s)
        ∧ h.toNat * 2 ^ 32 + l.toNat = lowNat s rs * lowNat s rt)
      ∧ (∃ h l : DWord, Completes (.dmult rs rt) s (OnlyHiLo h l s)
        ∧ h.toInt * 2 ^ 64 + l.toNat = regInt s rs * regInt s rt)
      ∧ ∃ h l : DWord, Completes (.dmultu rs rt) s (OnlyHiLo h l s)
        ∧ h.toNat * 2 ^ 64 + l.toNat = regNat s rs * regNat s rt

/-- DIV, DIVU, DDIV and DDIVU with a divisor that is not zero, but for the one overflowing case: LO holds the quotient `q`
and HI the remainder `r` with n = q*d + r, |r| < |d|, and r of the sign of the dividend (or zero). -/
def Obligations.DivideExactly : Prop :=
  ∀ (s : State) (rs rt : RegIdx),
    (lowInt s rt ≠ 0 → ¬(lowInt s rs = -2 ^ 31 ∧ lowInt s rt = -1) → ∃ q r : Word,
        Completes (.div rs rt) s (OnlyHiLo (r.signExtend 64) (q.signExtend 64) s)
          ∧ lowInt s rs = q.toInt * lowInt s rt + r.toInt ∧ |r.toInt| < |lowInt s rt| ∧ 0 ≤ r.toInt * lowInt s rs)
      ∧ (lowNat s rt ≠ 0 → ∃ q r : Word,
        Completes (.divu rs rt) s (OnlyHiLo (r.signExtend 64) (q.signExtend 64) s)
          ∧ lowNat s rs = q.toNat * lowNat s rt + r.toNat ∧ r.toNat < lowNat s rt)
      ∧ (regInt s rt ≠ 0 → ¬(regInt s rs = -2 ^ 63 ∧ regInt s rt = -1) → ∃ q r : DWord,
        Completes (.ddiv rs rt) s (OnlyHiLo r q s)
          ∧ regInt s rs = q.toInt * regInt s rt + r.toInt ∧ |r.toInt| < |regInt s rt| ∧ 0 ≤ r.toInt * regInt s rs)
      ∧ (regNat s rt ≠ 0 → ∃ q r : DWord,
        Completes (.ddivu rs rt) s (OnlyHiLo r q s)
          ∧ regNat s rs = q.toNat * regNat s rt + r.toNat ∧ r.toNat < regNat s rt)

/-- Division by zero and the overflowing signed divisions complete without a trap, with the values of R261: the quotient
is -1 for a dividend that is not negative (unsigned ones never are) and 1 for a negative one, the remainder is the
dividend; the most negative value divided by -1 gives itself and 0. -/
def Obligations.DivideByZeroAndOverflow : Prop :=
  ∀ (s : State) (rs rt : RegIdx),
    (lowInt s rt = 0 → Completes (.div rs rt) s
        (OnlyHiLo ((low32 (s.readReg rs)).signExtend 64) (if 0 ≤ lowInt s rs then -1#64 else 1#64) s))
      ∧ (lowNat s rt = 0 → Completes (.divu rs rt) s (OnlyHiLo ((low32 (s.readReg rs)).signExtend 64) (-1#64) s))
      ∧ (regInt s rt = 0 → Completes (.ddiv rs rt) s
        (OnlyHiLo (s.readReg rs) (if 0 ≤ regInt s rs then -1#64 else 1#64) s))
      ∧ (regNat s rt = 0 → Completes (.ddivu rs rt) s (OnlyHiLo (s.readReg rs) (-1#64) s))
      ∧ (regInt s rs = -2 ^ 63 → regInt s rt = -1 → Completes (.ddiv rs rt) s (OnlyHiLo 0#64 (s.readReg rs) s))
      ∧ (lowInt s rs = -2 ^ 31 → lowInt s rt = -1 →
        Completes (.div rs rt) s (OnlyHiLo 0#64 0xFFFFFFFF80000000#64 s))

/-- MFHI, MFLO, MTHI and MTLO copy all 64 bits; a move to one of HI and LO leaves the other alone. -/
def Obligations.HiLoMoves : Prop :=
  ∀ (s : State) (r : RegIdx),
    Gives (.mfhi r) r s.hi s ∧ Gives (.mflo r) r s.lo s
      ∧ Completes (.mthi r) s (OnlyHiLo (s.readReg r) s.lo s) ∧ Completes (.mtlo r) s (OnlyHiLo s.hi (s.readReg r) s)

/-- HI and LO are written only by the multiply and divide instructions and by MTHI and MTLO, and read only by MFHI and
MFLO: every other instruction leaves both alone; and every instruction but those two does the same from a state in which
they hold anything else, where each is afterwards what the instruction writes to it or what it held. (10_state.md R21.) -/
def Obligations.HiLoWritersAndReaders : Prop :=
  ∀ (i : Instr) (s : State) (h l : DWord),
    (i.cls ≠ .muldiv ∨ (∃ r, i = .mfhi r ∨ i = .mflo r) → ∀ t, exec i s = .next t → SameHiLo s t)
      ∧ ((∀ r, i ≠ .mfhi r ∧ i ≠ .mflo r) →
        (∀ t, exec i s = .next t → ∃ h' l', (h' = t.hi ∨ h' = h) ∧ (l' = t.lo ∨ l' = l)
          ∧ exec i { s with hi := h, lo := l } = .next { t with hi := h', lo := l' })
        ∧ ∀ f, exec i s = .fault f → exec i { s with hi := h, lo := l } = .fault f)

-- Branches and jumps (42_branch_jump.md).

/-- J, JAL, JR and JALR: the delay slot runs next and then the target. J and JAL replace the low 28 bits of the address of
the jump itself; JR and JALR take the register, JALR before it links; the linking forms write the address after the delay
slot. (R282, R284 to R289.) -/
def Obligations.Jumps : Prop :=
  ∀ (s : State) (target : BitVec 26) (rd rs : RegIdx),
    Moves (.j target) s (DelayThen (s.oldPC.extractLsb' 28 36 ++ target ++ 0#2))
      ∧ MovesAndLinks (.jal target) 31 s (DelayThen (s.oldPC.extractLsb' 28 36 ++ target ++ 0#2))
      ∧ Moves (.jr rs) s (DelayThen (s.readReg rs))
      ∧ MovesAndLinks (.jalr rd rs) rd s (DelayThen (s.readReg rs))

/-- BEQ, BNE, BLEZ, BGTZ, BLTZ, BGEZ and the linking BLTZAL, BGEZAL: the delay slot always runs; then, when the condition
on the 64-bit values holds, control goes to the delay slot's address plus four times the signed offset. The linking forms
test the register as it was before the link and write `x[31]` either way. (R280, R282, R283.) -/
def Obligations.Branches : Prop :=
  ∀ (s : State) (rs rt : RegIdx) (imm : BitVec 16) (target : VAddr),
    target = s.pc + BitVec.ofInt 64 (4 * imm.toInt) →
      Moves (.beq rs rt imm) s (Branched (s.readReg rs = s.readReg rt) target)
        ∧ Moves (.bne rs rt imm) s (Branched (s.readReg rs ≠ s.readReg rt) target)
        ∧ Moves (.blez rs imm) s (Branched (regInt s rs ≤ 0) target)
        ∧ Moves (.bgtz rs imm) s (Branched (0 < regInt s rs) target)
        ∧ Moves (.bltz rs imm) s (Branched (regInt s rs < 0) target)
        ∧ Moves (.bgez rs imm) s (Branched (0 ≤ regInt s rs) target)
        ∧ MovesAndLinks (.bltzal rs imm) 31 s (Branched (regInt s rs < 0) target)
        ∧ MovesAndLinks (.bgezal rs imm) 31 s (Branched (0 ≤ regInt s rs) target)

/-- The eight likely forms: as the branches when the condition holds; when it does not, the delay slot is skipped. (R281,
R282.) -/
def Obligations.BranchesLikely : Prop :=
  ∀ (s : State) (rs rt : RegIdx) (imm : BitVec 16) (target : VAddr),
    target = s.pc + BitVec.ofInt 64 (4 * imm.toInt) →
      Moves (.beql rs rt imm) s (LikelyBranched (s.readReg rs = s.readReg rt) target)
        ∧ Moves (.bnel rs rt imm) s (LikelyBranched (s.readReg rs ≠ s.readReg rt) target)
        ∧ Moves (.blezl rs imm) s (LikelyBranched (regInt s rs ≤ 0) target)
        ∧ Moves (.bgtzl rs imm) s (LikelyBranched (0 < regInt s rs) target)
        ∧ Moves (.bltzl rs imm) s (LikelyBranched (regInt s rs < 0) target)
        ∧ Moves (.bgezl rs imm) s (LikelyBranched (0 ≤ regInt s rs) target)
        ∧ MovesAndLinks (.bltzall rs imm) 31 s (LikelyBranched (regInt s rs < 0) target)
        ∧ MovesAndLinks (.bgezall rs imm) 31 s (LikelyBranched (0 ≤ regInt s rs) target)

/-- The word of a row ends a block exactly when R178 lists the row, a reserved word has no such bit, and an instruction
whose static word does not end a block never redirects control by itself: it leaves the next two addresses and the
delay-slot bit alone, unless it enters an exception. (30_encoding.md R178.) -/
def Obligations.OnlyBlockEndersRedirect : Prop :=
  ∀ w : Word,
    ((∀ i : Instr, w &&& i.row.mask ≠ i.row.value) → endsBlock w = none)
    ∧ ∀ i : Instr, decode w = .ok i →
      endsBlock w = some (listedBlockEnder i)
        ∧ ∀ s t : State, endsBlock w = some false → exec i s = .next t →
          t.delaySlot = s.delaySlot ∧ t.oldPC = s.oldPC
            ∧ ((t.pc = s.pc ∧ t.nextPC = s.nextPC)
              ∨ (statusEXL t.cop0.status = true ∧ t.nextPC = t.pc + 4#64
                ∧ ∃ off, off ∈ [0x000#64, 0x080#64, 0x180#64] ∧ t.pc = vectorBase s.cop0.status + off))

-- Modes, interrupts, the environment.

/-- The signals derived from Status and Cause, from their bits where R41 and R42 put them: the mode, the addressing width
as a function of Status alone, and the interrupt check, which needs some bit both pending and unmasked, IE set, and EXL and
ERL clear; and the places of the fields the other statements name. (10_state.md R41, R42, R55, R56, 60_exceptions.md
R481.) -/
def Obligations.DerivedSignals : Prop :=
  ∀ (st c : Word) (s : State),
    (modeOf st = some .kernel ↔ st.getLsbD 1 = true ∨ st.getLsbD 2 = true ∨ st.extractLsb' 3 2 = 0b00#2)
      ∧ (modeOf st = some .supervisor ↔ st.getLsbD 1 = false ∧ st.getLsbD 2 = false ∧ st.extractLsb' 3 2 = 0b01#2)
      ∧ (modeOf st = some .user ↔ st.getLsbD 1 = false ∧ st.getLsbD 2 = false ∧ st.extractLsb' 3 2 = 0b10#2)
      ∧ (modeOf st = none ↔ st.getLsbD 1 = false ∧ st.getLsbD 2 = false ∧ st.extractLsb' 3 2 = 0b11#2)
      ∧ (is64 st = true ↔ (modeOf st = some .kernel ∧ st.getLsbD 7 = true)
        ∨ (modeOf st = some .supervisor ∧ st.getLsbD 6 = true) ∨ (modeOf st = some .user ∧ st.getLsbD 5 = true))
      ∧ statusEXL st = st.getLsbD 1 ∧ statusERL st = st.getLsbD 2 ∧ statusBEV st = st.getLsbD 22
      ∧ statusFR st = st.getLsbD 26 ∧ statusCU0 st = st.getLsbD 28 ∧ statusCU1 st = st.getLsbD 29
      ∧ causeExcCode c = c.extractLsb' 2 5 ∧ causeCE c = c.extractLsb' 28 2 ∧ causeBD c = c.getLsbD 31
      ∧ (interruptDue s = true ↔
        (∃ n < 8, s.cop0.cause.getLsbD (8 + n) = true ∧ s.cop0.status.getLsbD (8 + n) = true)
          ∧ s.cop0.status.getLsbD 0 = true ∧ s.cop0.status.getLsbD 1 = false ∧ s.cop0.status.getLsbD 2 = false)

/-- The external lines, one by one: `IrqSet(n)` sets `Cause.IP[n]`, bit `8 + n` of Cause, for n from 2 to 6, `IrqClear(n)`
clears it, and nothing else changes; taking the Interrupt exception leaves every pending bit as it is. (60_exceptions.md
R480.) -/
def Obligations.InterruptLines : Prop :=
  ∀ (s : State) (pc : VAddr) (d : Bool) (k : Nat),
    (∀ (n : IrqLine) (b : Nat), (n, b) ∈ [(IrqLine.ip2, 10), (.ip3, 11), (.ip4, 12), (.ip5, 13), (.ip6, 14)] →
      s.applyEvent (.irqSet n) = { s with cop0 := { s.cop0 with cause := s.cop0.cause ||| (1#32 <<< b) } }
        ∧ s.applyEvent (.irqClear n) = { s with cop0 := { s.cop0 with cause := s.cop0.cause &&& ~~~(1#32 <<< b) } })
    ∧ (8 ≤ k → k < 16 → (s.raise .interrupt 0#2 pc d).cop0.cause.getLsbD k = s.cop0.cause.getLsbD k)

/-- A timer tick adds 1 to Count modulo 2^32 and sets `Cause.IP[7]` exactly when the new Count equals Compare (the
schedule of ticks is the model's input, log 9). (60_exceptions.md R490.) -/
def Obligations.TimerTick : Prop :=
  ∀ s : State, ∃ c,
    s.applyEvent .timerTick = { s with cop0 := { s.cop0 with count := s.cop0.count + 1#32, cause := c } }
      ∧ (s.cop0.count + 1#32 ≠ s.cop0.compare → c = s.cop0.cause)
      ∧ (s.cop0.count + 1#32 = s.cop0.compare →
        c.getLsbD 15 = true ∧ ∀ k, k ≠ 15 → c.getLsbD k = s.cop0.cause.getLsbD k)

-- Exceptions (60_exceptions.md).

/-- Taking an exception: every field, for every kind, in every state, nested or not, with the thirteen numbers of R460 in
bits 6:2 of Cause (R460, R470 to R472, R475). -/
def Obligations.ExceptionEntry : Prop :=
  ∀ (s : State) (kind : ExcKind) (cop : BitVec 2) (pc : VAddr) (d : Bool),
    Entered kind cop pc d s (s.raise kind cop pc d)
      ∧ (∀ code : BitVec 5,
        (kind, code) ∈ [(ExcKind.interrupt, 0#5), (.tlbModification, 1#5), (.tlbLoad, 2#5), (.tlbStore, 3#5),
          (.addressErrorLoad, 4#5), (.addressErrorStore, 5#5), (.syscall, 8#5), (.breakpoint, 9#5),
          (.reservedInstruction, 10#5), (.coprocessorUnusable, 11#5), (.overflow, 12#5), (.trap, 13#5),
          (.floatingPoint, 15#5)] →
          (s.raise kind cop pc d).cop0.cause.extractLsb' 2 5 = code)
      ∧ modeOf (s.raise kind cop pc d).cop0.status = some .kernel ∧ interruptDue (s.raise kind cop pc d) = false

/-- A handler's address never faults: from the state an exception entry leaves, the first fetch translates, through no TLB
entry. (R471, last sentence; 20_memory.md R97.) -/
def Obligations.HandlerFetchTranslates : Prop :=
  ∀ (s : State) (kind : ExcKind) (cop : BitVec 2) (pc : VAddr) (d : Bool),
    ∃ t pa, s.raise kind cop pc d = t ∧ aligned .word t.pc = true
      ∧ ∀ tlb, xlate .load t.pc { t with tlb := tlb } = .ok pa

-- Memory (20_memory.md).

/-- The MemoryPort over RAM: bytes in big-endian order, a write changes exactly its own bytes, and a read after a write of
the same datum gives it back; unmapped space reads zero and discards writes; a ROM discards them too (log 4); no write to
what is not RAM changes a byte. The region of the first byte decides for the whole datum, also at the edge of a region (the
model's choice, log 5). A byte written by another bus master is such a write (R136), in RAM alone (the model's choice, log
21), and changes nothing else. A read of a peripheral window records exactly that call and gives
the low bytes of the peripheral's free answer; a write to one records exactly that call with the bytes written (log 6); RAM,
ROM and unmapped space record nothing; a call changes nothing but memory and the record. (R92, R93, R96.) -/
def Obligations.MemoryPort : Prop :=
  ∀ (s : State) (pa : PAddr) (w : Width) (v : DWord),
    Written pa w v s (s.memWrite pa w v)
      ∧ (s.region pa = some .ram ∨ s.region pa = some .rom →
        (∀ k, k < w.bytes → byteAt w (s.memReadValue pa w) k = s.mem.readByte (pa + BitVec.ofNat 32 k))
          ∧ (s.memReadValue pa w).toNat < 2 ^ w.bits)
      ∧ (s.region pa = none → s.memReadValue pa w = 0#64)
      ∧ (s.region pa = some .ram →
        ((s.memWrite pa w v).memReadValue pa w).toNat = v.toNat % 2 ^ w.bits)
      ∧ (∀ b : Byte,
        Written pa .byte (b.setWidth 64) s (s.applyEvent (.busWrite pa b))
          ∧ s.applyEvent (.busWrite pa b) = { s with mem := (s.applyEvent (.busWrite pa b)).mem })
      ∧ s.memRead pa w = (s.memReadValue pa w, { s with ports := s.portsAfterRead pa w })
      ∧ s.memWrite pa w v = { s with mem := (s.memWrite pa w v).mem, ports := s.portsAfterWrite pa w v }
      ∧ (s.region pa = some .device →
        s.portsAfterRead pa w = .deviceRead pa w :: s.ports
          ∧ (s.memReadValue pa w).toNat = (Config.answerWord (.deviceRead pa w :: s.ports)).toNat % 2 ^ w.bits
          ∧ ∃ low : DWord, low.toNat = v.toNat % 2 ^ w.bits
            ∧ s.portsAfterWrite pa w v = .deviceWrite pa w low :: s.ports)
      ∧ (s.region pa ≠ some .device → s.portsAfterRead pa w = s.ports ∧ s.portsAfterWrite pa w v = s.ports)

/-- The unmapped segments of the kernel, for all TLB contents. kseg0 and kseg1 give bits 28:0 of the address, in both
addressing widths, and leave `tlb_error` alone. In 64-bit addressing, bits 63:62 = 10 give the low 32 bits, whatever the
cache attribute in bits 61:59, and fail exactly when a bit of 58:32 is set. (R105, R106.) -/
def Obligations.UnmappedSegments : Prop :=
  ∀ (s : State) (kind : Access) (va : VAddr),
    modeOf s.cop0.status = some .kernel →
      (is64 s.cop0.status = false → (va.extractLsb' 29 3 = 0b100#3 ∨ va.extractLsb' 29 3 = 0b101#3) →
        s.translate kind va = (.ok ((va.extractLsb' 0 29).setWidth 32), s))
      ∧ (is64 s.cop0.status = true → va.extractLsb' 32 32 = 0xFFFFFFFF#32 →
        (va.extractLsb' 29 3 = 0b100#3 ∨ va.extractLsb' 29 3 = 0b101#3) →
          s.translate kind va = (.ok ((va.extractLsb' 0 29).setWidth 32), s))
      ∧ s.translate kind 0xFFFFFFFF80000000#64 = (.ok 0#32, s) ∧ s.translate kind 0xFFFFFFFFA0000000#64 = (.ok 0#32, s)
      ∧ (is64 s.cop0.status = true → va.extractLsb' 62 2 = 0b10#2 → va.extractLsb' 32 27 = 0#27 →
        s.translate kind va = (.ok (va.setWidth 32), s))
      ∧ (is64 s.cop0.status = true → va.extractLsb' 62 2 = 0b10#2 → va.extractLsb' 32 27 ≠ 0#27 →
        s.translate kind va = (.fail .disallowedAddress, { s with tlbError := some .disallowedAddress }))

/-- No mode reaches a segment that is not its own: outside the ranges the tables of R103 and R104 give user and supervisor
mode, and in the three Disallowed ranges of the kernel in 64-bit addressing, a translation fails with DISALLOWED_ADDRESS,
for all TLB contents. (R103, R104, R107.) -/
def Obligations.PrivilegeRestrictsSegments : Prop :=
  ∀ (s : State) (kind : Access) (va : VAddr),
    (modeOf s.cop0.status = some .user → is64 s.cop0.status = false → 2 ^ 31 ≤ (low32 va).toNat →
        xlate kind va s = .fail .disallowedAddress)
      ∧ (modeOf s.cop0.status = some .user → is64 s.cop0.status = true → 2 ^ 40 ≤ va.toNat →
        xlate kind va s = .fail .disallowedAddress)
      ∧ (modeOf s.cop0.status = some .supervisor → is64 s.cop0.status = false →
        2 ^ 31 ≤ (low32 va).toNat → va.extractLsb' 29 3 ≠ 0b110#3 → xlate kind va s = .fail .disallowedAddress)
      ∧ (modeOf s.cop0.status = some .supervisor → is64 s.cop0.status = true →
        2 ^ 40 ≤ va.toNat → ¬(2 ^ 62 ≤ va.toNat ∧ va.toNat < 2 ^ 62 + 2 ^ 40) →
        ¬(0xFFFFFFFFC0000000 ≤ va.toNat ∧ va.toNat < 0xFFFFFFFFE0000000) → xlate kind va s = .fail .disallowedAddress)
      ∧ (modeOf s.cop0.status = some .kernel → is64 s.cop0.status = true →
        (0x0000010000000000 ≤ va.toNat ∧ va.toNat ≤ 0x3FFFFFFFFFFFFFFF)
          ∨ (0x4000010000000000 ≤ va.toNat ∧ va.toNat ≤ 0x7FFFFFFFFFFFFFFF)
          ∨ (0xC00000FF80000000 ≤ va.toNat ∧ va.toNat ≤ 0xFFFFFFFF7FFFFFFF) →
            xlate kind va s = .fail .disallowedAddress)

/-- The TLB lookup, in every mapped segment of every mode and both addressing widths; in 32-bit addressing the address
looked up is the low word, sign-extended. No match is MISS; else the first match decides and its half is chosen by the
address bit at the page-size boundary: a half that is not valid gives INVALID, a store to a valid half that is not dirty
MODIFICATION, and otherwise the physical address is the frame with the page offset. (R102 to R104, R108 to R111, R114.) -/
def Obligations.MappedLookup : Prop :=
  ∀ (s : State) (kind : Access) (va eva : VAddr) (m : Mode),
    modeOf s.cop0.status = some m → InMapped m (is64 s.cop0.status) va →
      eva = (if is64 s.cop0.status then va else (low32 va).signExtend 64) →
        (NoMatch s (s.cop0.entryHi.extractLsb' 0 8) eva → xlate kind va s = .fail .miss)
        ∧ ∀ i, FirstMatch s (s.cop0.entryHi.extractLsb' 0 8) eva i →
          ∃ (h : i < 32) (half : TlbHalf) (off : DWord),
            off = ((s.tlb[i]'h).mask.setWidth 64 <<< 12) ||| 0xFFF#64
              ∧ half = (if eva &&& (off + 1#64) = 0#64 then (s.tlb[i]'h).even else (s.tlb[i]'h).odd)
              ∧ (half.v = false → xlate kind va s = .fail .invalid)
              ∧ (half.v = true → kind = .store → half.d = false → xlate kind va s = .fail .modification)
              ∧ (half.v = true → (kind = .store → half.d = true) →
                xlate kind va s = .ok (((half.pfn.setWidth 64 <<< 12) ||| (eva &&& off)).setWidth 32))

/-- Validity and write permission of the half a matching entry gives, in this order: V clear is INVALID for loads and
stores alike; V set and D clear is MODIFICATION for a store; a load never looks at D. (R110.) -/
def Obligations.HalfPermissions : Prop :=
  ∀ (kind : Access) (e : TlbEntry) (va : VAddr),
    ((e.half va).v = false → tlbAccess kind e va = .fail .invalid)
      ∧ ((e.half va).v = true → (e.half va).d = false → tlbAccess .store e va = .fail .modification)
      ∧ ((e.half va).v = true → ∃ pa, tlbAccess .load e va = .ok pa)
      ∧ ((e.half va).v = true → (e.half va).d = true → ∃ pa, tlbAccess .store e va = .ok pa)

/-- A translation writes nothing but `tlb_error`, and that only when it fails, with the kind of the failure; it is
read-only with respect to the TLB and every COP0 register. (R112, R113.) -/
def Obligations.TranslateWritesOnlyTheLatch : Prop :=
  ∀ (s t : State) (kind : Access) (va : VAddr) (x : Xlate),
    s.translate kind va = (x, t) →
      t.tlb = s.tlb ∧ t.cop0 = s.cop0 ∧ t = { s with tlbError := t.tlbError }
        ∧ (∀ k, x = .fail k → t.tlbError = some k) ∧ ((∀ k, x ≠ .fail k) → t.tlbError = s.tlbError)

/-- What an address fault records (R116): BadVAddr, the page-number fields of Context, XContext and EntryHi, and nothing
else; the rest of the state is as before. -/
def Obligations.RecordFault : Prop :=
  ∀ (s : State) (va : VAddr),
    FaultRecorded va s.cop0 (s.recordFault va).cop0 ∧ s.recordFault va = { s with cop0 := (s.recordFault va).cop0 }

-- Loads and stores (43_load_store.md).

/-- The address phase of every load and store: the 64-bit sum of the base register and the signed offset, modulo 2^64,
must be a multiple of the width when that is checked, and must translate. (R320, R321, 20_memory.md R117.) -/
def Obligations.DataAddress : Prop :=
  ∀ (s : State) (kind : Access) (w : Width) (ck : Bool) (base : RegIdx) (imm : BitVec 16) (pa : PAddr),
    s.ea base imm = BitVec.ofInt 64 ((s.readReg base).toNat + imm.toInt)
      ∧ (dataAddr kind w ck base imm s = .ok pa ↔
        (ck = true → (s.ea base imm).toNat % w.bytes = 0) ∧ xlate kind (s.ea base imm) s = .ok pa)

/-- LB, LBU, LH, LHU, LW, LWU and LD: one port read of the width at the address the address phase gives, extended by sign
or by zeros, into `x[rt]`; a load into `x[0]` still reads. (R322 to R328, R335.) -/
def Obligations.Loads : Prop :=
  ∀ (s : State) (rt base : RegIdx) (imm : BitVec 16) (pa : PAddr),
    (dataAddr .load .byte false base imm s = .ok pa →
      Completes (.lb rt base imm) s (Loaded rt (((s.memReadValue pa .byte).setWidth 8).signExtend 64) pa .byte s)
        ∧ Completes (.lbu rt base imm) s (Loaded rt (((s.memReadValue pa .byte).setWidth 8).setWidth 64) pa .byte s))
    ∧ (dataAddr .load .half true base imm s = .ok pa →
      Completes (.lh rt base imm) s (Loaded rt (((s.memReadValue pa .half).setWidth 16).signExtend 64) pa .half s)
        ∧ Completes (.lhu rt base imm) s (Loaded rt (((s.memReadValue pa .half).setWidth 16).setWidth 64) pa .half s))
    ∧ (dataAddr .load .word true base imm s = .ok pa →
      Completes (.lw rt base imm) s (Loaded rt ((low32 (s.memReadValue pa .word)).signExtend 64) pa .word s)
        ∧ Completes (.lwu rt base imm) s (Loaded rt ((low32 (s.memReadValue pa .word)).setWidth 64) pa .word s))
    ∧ (dataAddr .load .dword true base imm s = .ok pa →
      Completes (.ld rt base imm) s (Loaded rt (s.memReadValue pa .dword) pa .dword s))

/-- LWL, LWR, LDL and LDR, byte by byte: from the aligned datum that holds the address, the left forms take the bytes from
the address to the datum's end into the register's high end, the right forms the bytes from the datum's start up to the
address into its low end; the other bytes of the register stay, and a word result is sign-extended. (R329 to R332,
R342.) -/
def Obligations.LoadsLeftRight : Prop :=
  ∀ (s : State) (rt base : RegIdx) (imm : BitVec 16) (pa : PAddr) (o p : Nat) (ea : VAddr),
    ea = s.ea base imm → o = offsetIn .word ea → p = offsetIn .dword ea →
      (dataAddr .load .word false base imm s = .ok pa →
        Completes (.lwl rt base imm) s (LoadedBytes rt .word (alignDown .word pa)
          (fun k => if k < 4 - o then datumByte s (alignDown .word pa) .word (o + k) else regByte s rt .word k) s)
        ∧ Completes (.lwr rt base imm) s (LoadedBytes rt .word (alignDown .word pa)
          (fun k => if 3 - o ≤ k then datumByte s (alignDown .word pa) .word (k - (3 - o)) else regByte s rt .word k) s))
      ∧ (dataAddr .load .dword false base imm s = .ok pa →
        Completes (.ldl rt base imm) s (LoadedBytes rt .dword (alignDown .dword pa)
          (fun k => if k < 8 - p then datumByte s (alignDown .dword pa) .dword (p + k) else regByte s rt .dword k) s)
        ∧ Completes (.ldr rt base imm) s (LoadedBytes rt .dword (alignDown .dword pa)
          (fun k => if 7 - p ≤ k then datumByte s (alignDown .dword pa) .dword (k - (7 - p)) else regByte s rt .dword k)
          s))

/-- The pair LWL at an address and LWR three bytes on loads the unaligned word there, when both addresses translate, to
neighbouring bytes of RAM, and the base is another register than the destination. (R342.) -/
def Obligations.UnalignedLoadPair : Prop :=
  ∀ (s : State) (rt base : RegIdx) (pa : PAddr),
    rt ≠ 0 → rt ≠ base → dataAddr .load .word false base 0 s = .ok pa →
      dataAddr .load .word false base 3 s = .ok (pa + 3#32) → s.region (alignDown .word pa) = some .ram →
        s.region (alignDown .word (pa + 3#32)) = some .ram →
          ∃ t u, exec (.lwl rt base 0) s = .next t ∧ exec (.lwr rt base 3) t = .next u
            ∧ u.readReg rt = (s.mem.readByte pa ++ s.mem.readByte (pa + 1#32) ++ s.mem.readByte (pa + 2#32)
              ++ s.mem.readByte (pa + 3#32)).signExtend 64
            ∧ (∀ q, q ≠ rt → u.readReg q = s.readReg q) ∧ SameBytes s u ∧ OnlyRegMem s u

/-- SB, SH, SW and SD: one port write of the low bytes of `x[rt]` at the address the address phase gives, and nothing
else. (R333 to R337.) -/
def Obligations.Stores : Prop :=
  ∀ (s : State) (rt base : RegIdx) (imm : BitVec 16) (pa : PAddr),
    (dataAddr .store .byte false base imm s = .ok pa →
      Completes (.sb rt base imm) s (Stored pa .byte (s.readReg rt) s))
    ∧ (dataAddr .store .half true base imm s = .ok pa →
      Completes (.sh rt base imm) s (Stored pa .half (s.readReg rt) s))
    ∧ (dataAddr .store .word true base imm s = .ok pa →
      Completes (.sw rt base imm) s (Stored pa .word (s.readReg rt) s))
    ∧ (dataAddr .store .dword true base imm s = .ok pa →
      Completes (.sd rt base imm) s (Stored pa .dword (s.readReg rt) s))

/-- SWL, SWR, SDL and SDR, byte by byte: one read and one write of the aligned datum that holds the address. The left forms
put the register's high bytes from the address to the datum's end, the right forms its low bytes from the datum's start up
to the address; the other bytes of the datum, and all other memory, stay. (R335, R338 to R342.) -/
def Obligations.StoresLeftRight : Prop :=
  ∀ (s : State) (rt base : RegIdx) (imm : BitVec 16) (pa : PAddr) (o p : Nat) (ea : VAddr),
    ea = s.ea base imm → o = offsetIn .word ea → p = offsetIn .dword ea →
      (dataAddr .store .word false base imm s = .ok pa →
        Completes (.swl rt base imm) s (StoredBytes .word (alignDown .word pa)
          (fun j => if o ≤ j then regByte s rt .word (j - o) else datumByte s (alignDown .word pa) .word j) s)
        ∧ Completes (.swr rt base imm) s (StoredBytes .word (alignDown .word pa)
          (fun j => if j ≤ o then regByte s rt .word (3 - o + j) else datumByte s (alignDown .word pa) .word j) s))
      ∧ (dataAddr .store .dword false base imm s = .ok pa →
        Completes (.sdl rt base imm) s (StoredBytes .dword (alignDown .dword pa)
          (fun j => if p ≤ j then regByte s rt .dword (j - p) else datumByte s (alignDown .dword pa) .dword j) s)
        ∧ Completes (.sdr rt base imm) s (StoredBytes .dword (alignDown .dword pa)
          (fun j => if j ≤ p then regByte s rt .dword (7 - p + j) else datumByte s (alignDown .dword pa) .dword j) s))

/-- LL and LLD load as LW and LD do, set the linked bit, and record the physical address shifted right by 4 in LLAddr. SC
and SCD store exactly when the linked bit is set, report it in `x[rt]`, and clear it either way; the address is not
compared with LLAddr. (R343, R345 to R348.) -/
def Obligations.LoadLinkedStoreConditional : Prop :=
  ∀ (s : State) (rt base : RegIdx) (imm : BitVec 16) (pa : PAddr),
    (dataAddr .load .word true base imm s = .ok pa →
      Completes (.ll rt base imm) s (LinkedLoaded rt ((low32 (s.memReadValue pa .word)).signExtend 64) pa .word s))
    ∧ (dataAddr .load .dword true base imm s = .ok pa →
      Completes (.lld rt base imm) s (LinkedLoaded rt (s.memReadValue pa .dword) pa .dword s))
    ∧ (dataAddr .store .word true base imm s = .ok pa →
      Completes (.sc rt base imm) s (Conditional rt pa .word s))
    ∧ (dataAddr .store .dword true base imm s = .ok pa →
      Completes (.scd rt base imm) s (Conditional rt pa .dword s))

/-- CACHE and SYNC have no effect at all: no address, no translation, no exception, in any mode. (R349, R350.) -/
def Obligations.CacheAndSyncDoNothing : Prop :=
  ∀ (s : State) (op base : RegIdx) (imm : BitVec 16), exec (.cache op base imm) s = .next s ∧ exec .sync s = .next s

/-- Every load and store, those of the FPU too once it is usable: a misaligned address, where alignment is checked, raises
the address error of its side before any translation; a failing translation raises the exception paired with it. The
address is recorded, `tlb_error` is written by the failing translation alone, and no register, byte or latch of the
instruction's own changes. (R320, R344, 20_memory.md R94, R115 to R117.) -/
def Obligations.DataFaults : Prop :=
  ∀ (s : State) (i : Instr) (x : DataAccess),
    accessOf i = some x → (IsCop1 i → statusCU1 s.cop0.status = true) →
      (x.checked = true → (s.ea x.base x.imm).toNat % x.width.bytes ≠ 0 →
        Completes i s (FaultEntered (if x.kind = .load then .addressErrorLoad else .addressErrorStore) (s.ea x.base x.imm)
          s.oldPC s.tlbError s))
      ∧ ∀ k, (x.checked = true → (s.ea x.base x.imm).toNat % x.width.bytes = 0) →
        xlate x.kind (s.ea x.base x.imm) s = .fail k →
          Completes i s (FaultEntered (faultKind k x.kind) (s.ea x.base x.imm) s.oldPC (some k) s)

-- Traps, SYSCALL and BREAK (44_trap_system.md).

/-- The twelve conditional traps: Trap exactly when the comparison of the 64-bit values holds, no effect otherwise; the
immediates are sign-extended and TGEIU and TLTIU then compare unsigned; the code field plays no part. (R380 to R392.) -/
def Obligations.ConditionalTraps : Prop :=
  ∀ (s : State) (rs rt : RegIdx) (c : BitVec 10) (imm : BitVec 16),
    TrapsWhen (.tge rs rt c) (regInt s rt ≤ regInt s rs) s ∧ TrapsWhen (.tgeu rs rt c) (regNat s rt ≤ regNat s rs) s
      ∧ TrapsWhen (.tlt rs rt c) (regInt s rs < regInt s rt) s ∧ TrapsWhen (.tltu rs rt c) (regNat s rs < regNat s rt) s
      ∧ TrapsWhen (.teq rs rt c) (s.readReg rs = s.readReg rt) s ∧ TrapsWhen (.tne rs rt c) (s.readReg rs ≠ s.readReg rt) s
      ∧ TrapsWhen (.tgei rs imm) (imm.toInt ≤ regInt s rs) s
      ∧ TrapsWhen (.tgeiu rs imm) ((imm.signExtend 64).toNat ≤ regNat s rs) s
      ∧ TrapsWhen (.tlti rs imm) (regInt s rs < imm.toInt) s
      ∧ TrapsWhen (.tltiu rs imm) (regNat s rs < (imm.signExtend 64).toNat) s
      ∧ TrapsWhen (.teqi rs imm) (regInt s rs = imm.toInt) s ∧ TrapsWhen (.tnei rs imm) (regInt s rs ≠ imm.toInt) s

/-- SYSCALL and BREAK enter their exceptions, code 8 and code 9, in every state, and do nothing else; the code field plays
no part. (R393, R394.) -/
def Obligations.SyscallAndBreak : Prop :=
  ∀ (s : State) (c : BitVec 20),
    Completes (.syscall c) s (fun t => Raises .syscall 0#2 s t ∧ causeExcCode t.cop0.cause = 8#5)
      ∧ Completes (.brk c) s (fun t => Raises .breakpoint 0#2 s t ∧ causeExcCode t.cop0.cause = 9#5)

-- The system coprocessor (45_cop0_tlb.md).

/-- The gate (R400): with `P_COP0_GATE` off it is open in every state; with it on, outside kernel mode and with CU0 clear,
each of the nine instructions raises CoprocessorUnusable(0) and does nothing else. -/
def Obligations.Cop0Gate : Prop :=
  ∀ s : State,
    (s.params.cop0Gate = false → cop0Gated s = false)
      ∧ (modeOf s.cop0.status = some .kernel → cop0Gated s = false) ∧ (statusCU0 s.cop0.status = true → cop0Gated s = false)
      ∧ (s.params.cop0Gate = true → modeOf s.cop0.status ≠ some .kernel → statusCU0 s.cop0.status = false →
        ∀ i, IsCop0 i → Completes i s (Raises .coprocessorUnusable 0#2 s))

/-- MFC0 and DMFC0 from every register number: a listed register as 64 bits, a 32-bit one sign-extended; MFC0 gives the low
word of that, sign-extended. Random is a free number from Wired to 31, or to 63 when Wired is above 31, and an unlisted
number gives any value; each takes one draw (log 8). No register changes but `x[rt]`. (R401, R402, R407.) -/
def Obligations.MoveFromCop0 : Prop :=
  ∀ (s : State), cop0Gated s = false →
    ReadsAs 0 (s.cop0.index.signExtend 64) s.draws s ∧ ReadsAs 2 s.cop0.entryLo0 s.draws s
      ∧ ReadsAs 3 s.cop0.entryLo1 s.draws s ∧ ReadsAs 4 s.cop0.context s.draws s
      ∧ ReadsAs 5 (s.cop0.pageMask.signExtend 64) s.draws s ∧ ReadsAs 6 (s.cop0.wired.signExtend 64) s.draws s
      ∧ ReadsAs 8 s.cop0.badVAddr s.draws s ∧ ReadsAs 9 (s.cop0.count.signExtend 64) s.draws s
      ∧ ReadsAs 10 s.cop0.entryHi s.draws s ∧ ReadsAs 11 (s.cop0.compare.signExtend 64) s.draws s
      ∧ ReadsAs 12 (s.cop0.status.signExtend 64) s.draws s ∧ ReadsAs 13 (s.cop0.cause.signExtend 64) s.draws s
      ∧ ReadsAs 14 s.cop0.epc s.draws s ∧ ReadsAs 17 (s.cop0.llAddr.signExtend 64) s.draws s
      ∧ ReadsAs 20 s.cop0.xContext s.draws s ∧ ReadsAs 30 s.cop0.errorEPC s.draws s
      ∧ (∃ v, ReadsAs 1 v (s.draws + 1) s
        ∧ ((s.cop0.wired.extractLsb' 0 6).toNat ≤ 31 → (s.cop0.wired.extractLsb' 0 6).toNat ≤ v.toNat ∧ v.toNat ≤ 31)
        ∧ v.toNat ≤ 63)
      ∧ ∀ n ∈ [7#5, 15#5, 16#5, 18#5, 19#5, 21#5, 22#5, 23#5, 24#5, 25#5, 26#5, 27#5, 28#5, 29#5, 31#5],
          ∃ v, ReadsAs n v (s.draws + 1) s

/-- MTC0 and DMTC0 to every register number: a listed register takes the value under its write mask and nothing else
changes, but that a write to Compare also clears `Cause.IP[7]`; a write to Random is discarded; an unlisted number halts
or is discarded, as `P_UNLISTED_COP0_WRITE` says. (R403, R404, R409.) -/
def Obligations.MoveToCop0 : Prop :=
  ∀ (s : State) (rt : RegIdx) (f : RegIdx → Instr) (v : DWord), cop0Gated s = false → MovesTo rt s f v →
    Completes (f 0) s (OnlyCop0 { s.cop0 with index := underMask 0x8000003F#32 s.cop0.index (low32 v) } s)
      ∧ Completes (f 2) s (OnlyCop0 { s.cop0 with entryLo0 := underMask 0x3FFFFFFF#64 s.cop0.entryLo0 v } s)
      ∧ Completes (f 3) s (OnlyCop0 { s.cop0 with entryLo1 := underMask 0x3FFFFFFF#64 s.cop0.entryLo1 v } s)
      ∧ Completes (f 4) s (OnlyCop0 { s.cop0 with context := underMask 0xFFFFFFFFFF800000#64 s.cop0.context v } s)
      ∧ Completes (f 5) s (OnlyCop0 { s.cop0 with pageMask := underMask 0x01FFE000#32 s.cop0.pageMask (low32 v) } s)
      ∧ Completes (f 6) s (OnlyCop0 { s.cop0 with wired := underMask 0x0000003F#32 s.cop0.wired (low32 v) } s)
      ∧ Completes (f 8) s (OnlyCop0 s.cop0 s)
      ∧ Completes (f 9) s (OnlyCop0 { s.cop0 with count := low32 v } s)
      ∧ Completes (f 10) s (OnlyCop0 { s.cop0 with entryHi := underMask 0xC00000FFFFFFE0FF#64 s.cop0.entryHi v } s)
      ∧ Completes (f 11) s (OnlyCop0 { s.cop0 with compare := low32 v, cause := s.cop0.cause &&& 0xFFFF7FFF#32 } s)
      ∧ Completes (f 12) s (OnlyCop0 { s.cop0 with status := underMask 0xFF57FFFF#32 s.cop0.status (low32 v) } s)
      ∧ Completes (f 13) s (OnlyCop0 { s.cop0 with cause := underMask 0x00000300#32 s.cop0.cause (low32 v) } s)
      ∧ Completes (f 14) s (OnlyCop0 { s.cop0 with epc := v } s)
      ∧ Completes (f 17) s (OnlyCop0 { s.cop0 with llAddr := low32 v } s)
      ∧ Completes (f 20) s (OnlyCop0 { s.cop0 with xContext := underMask 0xFFFFFFFE00000000#64 s.cop0.xContext v } s)
      ∧ Completes (f 30) s (OnlyCop0 { s.cop0 with errorEPC := v } s)
      ∧ exec (f 1) s = .next s
      ∧ ∀ n ∈ [7#5, 15#5, 16#5, 18#5, 19#5, 21#5, 22#5, 23#5, 24#5, 25#5, 26#5, 27#5, 28#5, 29#5, 31#5],
          (s.params.unlistedWrite = .halt → exec (f n) s = .fault (.unlistedCop0Write n))
            ∧ (s.params.unlistedWrite = .ignore → exec (f n) s = .next s)

/-- TLBWI and TLBR with an index the TLB has: TLBWI replaces entry `Index` by what the staging registers describe, TLBR
copies entry `Index` into the staging registers; an index of 32 to 63 halts both. TLBWR writes one entry from Wired to 31,
whichever the draw gives (log 8), as TLBWI would; a Wired above 31 halts it. (R405, R406, R410 to R412.) -/
def Obligations.TlbReadAndWrite : Prop :=
  ∀ (s : State) (i : Nat), cop0Gated s = false → i = (s.cop0.index.extractLsb' 0 6).toNat →
    (i < 32 → Completes .tlbwi s fun t => ∃ e, StagedAs s.cop0 e ∧ OnlyTlbEntry i e s.draws s t)
      ∧ (∀ h : i < 32, Completes .tlbr s (OnlyCop0
          { s.cop0 with
            entryHi := (s.tlb[i]'h).r ++ 0#22 ++ (s.tlb[i]'h).vpn2 ++ 0#5 ++ (s.tlb[i]'h).asid,
            pageMask := 0#7 ++ (s.tlb[i]'h).mask ++ 0#13,
            entryLo0 := 0#34 ++ (s.tlb[i]'h).even.pfn ++ (s.tlb[i]'h).even.c ++ BitVec.ofBool (s.tlb[i]'h).even.d
              ++ BitVec.ofBool (s.tlb[i]'h).even.v ++ BitVec.ofBool (s.tlb[i]'h).g,
            entryLo1 := 0#34 ++ (s.tlb[i]'h).odd.pfn ++ (s.tlb[i]'h).odd.c ++ BitVec.ofBool (s.tlb[i]'h).odd.d
              ++ BitVec.ofBool (s.tlb[i]'h).odd.v ++ BitVec.ofBool (s.tlb[i]'h).g } s))
      ∧ (32 ≤ i → exec .tlbwi s = .fault (.tlbIndexOutOfRange (s.cop0.index.extractLsb' 0 6))
        ∧ exec .tlbr s = .fault (.tlbIndexOutOfRange (s.cop0.index.extractLsb' 0 6)))
      ∧ ((s.cop0.wired.extractLsb' 0 6).toNat < 32 → Completes .tlbwr s fun t =>
        ∃ j e, (s.cop0.wired.extractLsb' 0 6).toNat ≤ j ∧ j < 32 ∧ StagedAs s.cop0 e
          ∧ OnlyTlbEntry j e (s.draws + 1) s t)
      ∧ (32 ≤ (s.cop0.wired.extractLsb' 0 6).toNat →
        exec .tlbwr s = .fault (.tlbIndexOutOfRange (s.cop0.wired.extractLsb' 0 6)))

/-- TLBP puts in Index the number of the first entry that matches EntryHi, or sets P over a zero field when none does; it
raises nothing and writes nothing else. (R408, R413.) -/
def Obligations.TlbProbe : Prop :=
  ∀ (s : State), cop0Gated s = false →
    (∀ i, FirstMatch s (s.cop0.entryHi.extractLsb' 0 8) s.cop0.entryHi i →
        Completes .tlbp s (OnlyCop0 { s.cop0 with index := BitVec.ofNat 32 i } s))
      ∧ (NoMatch s (s.cop0.entryHi.extractLsb' 0 8) s.cop0.entryHi →
        Completes .tlbp s (OnlyCop0 { s.cop0 with index := 0x80000000#32 } s))

/-- Writing an entry and then translating an address inside its page gives the frame: TLBWI of a valid, dirty 4 KiB pair,
when no other entry matches, makes both accesses to the even page go to `PFN0` with the page offset, and to the odd page
to `PFN1`; in another address space a non-global entry gives MISS. (R406's round-trip property.) -/
def Obligations.TlbWriteThenTranslate : Prop :=
  ∀ (s t : State) (kind : Access) (va : VAddr) (asid : BitVec 8),
    cop0Gated s = false → modeOf s.cop0.status = some .kernel → is64 s.cop0.status = false →
      s.cop0.pageMask = 0#32 → va.toNat < 2 ^ 31 → va.extractLsb' 13 27 = s.cop0.entryHi.extractLsb' 13 27 →
        s.cop0.entryHi.extractLsb' 62 2 = 0#2 → exec .tlbwi s = .next t →
          (∀ j (h : j < 32), j ≠ (s.cop0.index.extractLsb' 0 6).toNat →
            ¬Matches (s.tlb[j]'h) asid va) →
            (asid = s.cop0.entryHi.extractLsb' 0 8 → va.getLsbD 12 = false →
                s.cop0.entryLo0.getLsbD 1 = true → s.cop0.entryLo0.getLsbD 2 = true →
                  xlate kind va t = .ok (((s.cop0.entryLo0.extractLsb' 6 24) ++ va.extractLsb' 0 12).setWidth 32))
              ∧ (asid = s.cop0.entryHi.extractLsb' 0 8 → va.getLsbD 12 = true →
                s.cop0.entryLo1.getLsbD 1 = true → s.cop0.entryLo1.getLsbD 2 = true →
                  xlate kind va t = .ok (((s.cop0.entryLo1.extractLsb' 6 24) ++ va.extractLsb' 0 12).setWidth 32))
              ∧ (asid ≠ s.cop0.entryHi.extractLsb' 0 8 → s.cop0.entryLo0.getLsbD 0 = false → ∀ u : State,
                u.tlb = t.tlb → u.cop0.status = t.cop0.status → u.cop0.entryHi.extractLsb' 0 8 = asid →
                  xlate kind va u = .fail .miss)

/-- ERET: control goes to ErrorEPC and ERL is cleared when ERL was set, to EPC and EXL is cleared otherwise; the linked bit
is cleared; there is no delay slot and nothing else changes. (R414.) -/
def Obligations.ReturnFromException : Prop :=
  ∀ (s : State), cop0Gated s = false → Completes .eret s fun t =>
    (statusERL s.cop0.status = true →
        t.pc = s.cop0.errorEPC ∧ t.cop0 = { s.cop0 with status := s.cop0.status &&& 0xFFFFFFFB#32 })
      ∧ (statusERL s.cop0.status = false →
        t.pc = s.cop0.epc ∧ t.cop0 = { s.cop0 with status := s.cop0.status &&& 0xFFFFFFFD#32 })
      ∧ t.nextPC = t.pc + 4#64 ∧ t.llBit = false ∧ t.oldPC = s.oldPC ∧ t.delaySlot = s.delaySlot ∧ t.curDS = s.curDS
      ∧ SameRegs s t ∧ SameHiLo s t ∧ t.tlbError = s.tlbError ∧ t.tlb = s.tlb ∧ SameBytes s t ∧ SameOutside s t

/-- Who writes the special state: only TLBWI and TLBWR change the TLB (20_memory.md R134); only LL, LLD, SC, SCD and ERET
change the linked bit (10_state.md R28); only the storing instructions change a byte of memory. -/
def Obligations.SpecialStateWriters : Prop :=
  ∀ (i : Instr) (s t : State), exec i s = .next t →
    (i ≠ .tlbwi → i ≠ .tlbwr → t.tlb = s.tlb)
      ∧ (i.cls ≠ .llsc → i ≠ .eret → t.llBit = s.llBit)
      ∧ ((∀ x, accessOf i = some x → x.kind = .load) → SameBytes s t)

-- The floating-point interface (46_cop1_interface.md).

/-- With CU1 clear, each of the eighteen instructions raises CoprocessorUnusable with coprocessor number 1, in every mode,
before any work: no address, no port call, nothing else. (R430.) -/
def Obligations.Cop1Unusable : Prop :=
  ∀ (s : State) (i : Instr), statusCU1 s.cop0.status = false → IsCop1 i →
    Completes i s fun t => Raises .coprocessorUnusable 1#2 s t ∧ causeExcCode t.cop0.cause = 11#5

/-- The moves and the operate instructions with CU1 set: the FPU is called once, with the instruction word and Status.FR.
MFC1, DMFC1 and CFC1 write its answer to `x[rt]`; MTC1, DMTC1 and CTC1 hand it `x[rt]`; the four operate rows hand it the
word; those raise FloatingPoint when it answers `fpe` and change nothing else. The answers are free (log 7). (R431 to
R437, R447.) -/
def Obligations.Cop1MovesAndOperate : Prop :=
  ∀ (s : State) (rt fs : RegIdx) (low : BitVec 11) (fn : BitVec 21) (fr : Bool),
    statusCU1 s.cop0.status = true → fr = statusFR s.cop0.status →
      (∀ i ∈ [Instr.mfc1 rt fs low, .dmfc1 rt fs low, .cfc1 rt fs low],
        Completes i s fun t =>
          RegWritten rt (Config.answerWord (.fpuMoveFrom (encode i) fr :: s.ports)) s t ∧ SameBytes s t ∧ OnlyRegMem s t
            ∧ t.ports = .fpuMoveFrom (encode i) fr :: s.ports)
      ∧ (∀ i ∈ [Instr.mtc1 rt fs low, .dmtc1 rt fs low, .ctc1 rt fs low],
        Completes i s (FpuAsked (.fpuMoveTo (encode i) (s.readReg rt) fr) s))
      ∧ ∀ i ∈ [Instr.cop1S fn, .cop1D fn, .cop1W fn, .cop1L fn], Completes i s (FpuAsked (.fpuExec (encode i) fr) s)

/-- The branches on the floating-point condition with CU1 set: the FPU is asked for the condition bit, a free answer (log
7), and then they branch as the other branches do. (R438 to R441.) -/
def Obligations.Cop1Branches : Prop :=
  ∀ (s : State) (imm : BitVec 16) (target : VAddr) (c : Bool),
    statusCU1 s.cop0.status = true → target = s.pc + BitVec.ofInt 64 (4 * imm.toInt) →
      c = Config.answerCond (.fpuCond :: s.ports) →
        ∀ (i : Instr) (p : State → State → Prop),
          ((i = .bc1f imm ∧ p = Branched (c = false) target) ∨ (i = .bc1t imm ∧ p = Branched (c = true) target)
            ∨ (i = .bc1fl imm ∧ p = LikelyBranched (c = false) target)
            ∨ (i = .bc1tl imm ∧ p = LikelyBranched (c = true) target)) →
              Completes i s fun t => p s t ∧ SameRegs s t ∧ t.ports = .fpuCond :: s.ports ∧ OnlyControl s t

/-- The floating-point loads and stores with CU1 set: one port read handed to the FPU, or one datum asked of the FPU, after
the address has translated, and one port write of it. No general register changes. (R442 to R445.) -/
def Obligations.Cop1LoadsAndStores : Prop :=
  ∀ (s : State) (ft base : RegIdx) (imm : BitVec 16) (pa : PAddr) (w : Width) (fr : Bool) (ld st : Instr) (v : DWord),
    statusCU1 s.cop0.status = true → fr = statusFR s.cop0.status →
      (w = .word ∧ ld = .lwc1 ft base imm ∧ st = .swc1 ft base imm)
        ∨ (w = .dword ∧ ld = .ldc1 ft base imm ∧ st = .sdc1 ft base imm) →
        v.toNat = (Config.answerWord (.fpuStoreData ft w fr :: s.ports)).toNat % 2 ^ w.bits →
          (dataAddr .load w true base imm s = .ok pa →
            Completes ld s (OnlyPorts (.fpuLoad ft w (s.memReadValue pa w) fr :: s.portsAfterRead pa w) s))
          ∧ (dataAddr .store w true base imm s = .ok pa →
            Completes st s fun t =>
              Written pa w v s t ∧ SameRegs s t ∧ OnlyRegMem s t
                ∧ t.ports = { s with ports := .fpuStoreData ft w fr :: s.ports }.portsAfterWrite pa w v)

-- The whole machine.

/-- With the COP0 gate on, code outside kernel mode with CU0 clear cannot change by any step the state that only system
code writes: Status changes by EXL alone, set by an exception entry; the TLB, Index, the EntryLo registers, PageMask, Wired,
Compare, ErrorEPC, the address space in EntryHi, the PTEBase fields of Context and XContext, and the software interrupts
Cause.IP[1:0] do not change; and when EPC changes, an exception was entered, so the next mode is kernel. What else of COP0
a step may change, an exception entry, an address fault, LL or LLD, or the environment writes. (60_exceptions.md R495,
45_cop0_tlb.md R400.) -/
def Obligations.UserCannotChangeTheSystem : Prop :=
  ∀ s t : State,
    s.params.cop0Gate = true → modeOf s.cop0.status ≠ some .kernel → statusCU0 s.cop0.status = false →
      step s = .next t →
        (t.cop0.status = s.cop0.status ∨ t.cop0.status = s.cop0.status ||| 0x00000002#32)
          ∧ t.tlb = s.tlb ∧ t.cop0.index = s.cop0.index ∧ t.cop0.entryLo0 = s.cop0.entryLo0
          ∧ t.cop0.entryLo1 = s.cop0.entryLo1 ∧ t.cop0.pageMask = s.cop0.pageMask ∧ t.cop0.wired = s.cop0.wired
          ∧ t.cop0.compare = s.cop0.compare ∧ t.cop0.errorEPC = s.cop0.errorEPC ∧ t.params = s.params
          ∧ t.cop0.entryHi.extractLsb' 0 8 = s.cop0.entryHi.extractLsb' 0 8
          ∧ t.cop0.context.extractLsb' 23 41 = s.cop0.context.extractLsb' 23 41
          ∧ t.cop0.xContext.extractLsb' 33 31 = s.cop0.xContext.extractLsb' 33 31
          ∧ t.cop0.cause.extractLsb' 8 2 = s.cop0.cause.extractLsb' 8 2
          ∧ (t.cop0.epc ≠ s.cop0.epc → modeOf t.cop0.status = some .kernel)
end

