-- ==== Sys2Proof/Laws/Encode.lean ====
section
/-! SUPPORT. What each field extractor reads from a word built by each format of the encoder, and what a word and its
four bytes are to each other. -/

namespace Sys2Proof.Laws

/-- A slice above the low part of a concatenation is a slice of the high part. -/
theorem extract_high {n m : Nat} (x : BitVec n) (y : BitVec m) (k l : Nat) :
    (x ++ y).extractLsb' (m + k) l = x.extractLsb' k l := by
  apply BitVec.eq_of_getLsbD_eq
  intro i hi
  simp only [BitVec.getLsbD_extractLsb', BitVec.getLsbD_append]
  have h1 : ¬ (m + k + i < m) := by omega
  have h2 : m + k + i - m = k + i := by omega
  simp [h1, h2]

/-- The low part of a concatenation. -/
theorem extract_low {n m : Nat} (x : BitVec n) (y : BitVec m) : (x ++ y).extractLsb' 0 m = y := by
  apply BitVec.eq_of_getLsbD_eq
  intro i hi
  simp [BitVec.getLsbD_append, hi]

/-- A mask over a concatenation, part by part. -/
theorem and_parts {n m : Nat} {x x' a : BitVec n} {y y' b : BitVec m} (h : x &&& x' = a) (k : y &&& y' = b) :
    (x ++ y) &&& (x' ++ y') = a ++ b := by
  rw [BitVec.and_append, h, k]

theorem and_kept {n : Nat} (x : BitVec n) : x &&& BitVec.allOnes n = x := by simp

theorem and_dropped {n : Nat} (x : BitVec n) : x &&& 0#n = 0#n := by simp

-- encR
@[simp] theorem opField_encR (rs rt rd sa : BitVec 5) (f : BitVec 6) : opField (encR rs rt rd sa f) = 0x00#6 :=
  (extract_high _ f 20 6).trans ((extract_high _ sa 15 6).trans ((extract_high _ rd 10 6).trans ((extract_high _ rt
      5 6).trans ((extract_high _ rs 0 6).trans (BitVec.extractLsb'_eq_self)))))
@[simp] theorem rsField_encR (rs rt rd sa : BitVec 5) (f : BitVec 6) : rsField (encR rs rt rd sa f) = rs :=
  (extract_high _ f 15 5).trans ((extract_high _ sa 10 5).trans ((extract_high _ rd 5 5).trans ((extract_high _ rt 0
      5).trans (extract_low _ rs))))
@[simp] theorem rtField_encR (rs rt rd sa : BitVec 5) (f : BitVec 6) : rtField (encR rs rt rd sa f) = rt :=
  (extract_high _ f 10 5).trans ((extract_high _ sa 5 5).trans ((extract_high _ rd 0 5).trans (extract_low _ rt)))
@[simp] theorem rdField_encR (rs rt rd sa : BitVec 5) (f : BitVec 6) : rdField (encR rs rt rd sa f) = rd :=
  (extract_high _ f 5 5).trans ((extract_high _ sa 0 5).trans (extract_low _ rd))
@[simp] theorem saField_encR (rs rt rd sa : BitVec 5) (f : BitVec 6) : saField (encR rs rt rd sa f) = sa :=
  (extract_high _ f 0 5).trans (extract_low _ sa)
@[simp] theorem functField_encR (rs rt rd sa : BitVec 5) (f : BitVec 6) : functField (encR rs rt rd sa f) = f :=
  (extract_low _ f)

-- encTrap
@[simp] theorem opField_encTrap (rs rt : BitVec 5) (code : BitVec 10) (f : BitVec 6) : opField (encTrap rs rt code
    f) = 0x00#6 :=
  (extract_high _ f 20 6).trans ((extract_high _ code 10 6).trans ((extract_high _ rt 5 6).trans ((extract_high _ rs
      0 6).trans (BitVec.extractLsb'_eq_self))))
@[simp] theorem rsField_encTrap (rs rt : BitVec 5) (code : BitVec 10) (f : BitVec 6) : rsField (encTrap rs rt code
    f) = rs :=
  (extract_high _ f 15 5).trans ((extract_high _ code 5 5).trans ((extract_high _ rt 0 5).trans (extract_low _ rs)))
@[simp] theorem rtField_encTrap (rs rt : BitVec 5) (code : BitVec 10) (f : BitVec 6) : rtField (encTrap rs rt code
    f) = rt :=
  (extract_high _ f 10 5).trans ((extract_high _ code 0 5).trans (extract_low _ rt))
@[simp] theorem code10Field_encTrap (rs rt : BitVec 5) (code : BitVec 10) (f : BitVec 6) : code10Field (encTrap rs
    rt code f) = code :=
  (extract_high _ f 0 10).trans (extract_low _ code)
@[simp] theorem functField_encTrap (rs rt : BitVec 5) (code : BitVec 10) (f : BitVec 6) : functField (encTrap rs rt
    code f) = f :=
  (extract_low _ f)

-- encCode
@[simp] theorem opField_encCode (code : BitVec 20) (f : BitVec 6) : opField (encCode code f) = 0x00#6 :=
  (extract_high _ f 20 6).trans ((extract_high _ code 0 6).trans (BitVec.extractLsb'_eq_self))
@[simp] theorem code20Field_encCode (code : BitVec 20) (f : BitVec 6) : code20Field (encCode code f) = code :=
  (extract_high _ f 0 20).trans (extract_low _ code)
@[simp] theorem functField_encCode (code : BitVec 20) (f : BitVec 6) : functField (encCode code f) = f :=
  (extract_low _ f)

-- encI
@[simp] theorem opField_encI (op : BitVec 6) (rs rt : BitVec 5) (imm : BitVec 16) : opField (encI op rs rt imm) = op
    :=
  (extract_high _ imm 10 6).trans ((extract_high _ rt 5 6).trans ((extract_high _ rs 0 6).trans
      (BitVec.extractLsb'_eq_self)))
@[simp] theorem rsField_encI (op : BitVec 6) (rs rt : BitVec 5) (imm : BitVec 16) : rsField (encI op rs rt imm) = rs
    :=
  (extract_high _ imm 5 5).trans ((extract_high _ rt 0 5).trans (extract_low _ rs))
@[simp] theorem rtField_encI (op : BitVec 6) (rs rt : BitVec 5) (imm : BitVec 16) : rtField (encI op rs rt imm) = rt
    :=
  (extract_high _ imm 0 5).trans (extract_low _ rt)
@[simp] theorem immField_encI (op : BitVec 6) (rs rt : BitVec 5) (imm : BitVec 16) : immField (encI op rs rt imm) =
    imm :=
  (extract_low _ imm)

-- encJ
@[simp] theorem opField_encJ (op : BitVec 6) (t : BitVec 26) : opField (encJ op t) = op :=
  (extract_high _ t 0 6).trans (BitVec.extractLsb'_eq_self)
@[simp] theorem targetField_encJ (op : BitVec 6) (t : BitVec 26) : targetField (encJ op t) = t :=
  (extract_low _ t)

-- encRI
@[simp] theorem opField_encRI (rs sub : BitVec 5) (imm : BitVec 16) : opField (encRI rs sub imm) = 0x01#6 :=
  (extract_high _ imm 10 6).trans ((extract_high _ sub 5 6).trans ((extract_high _ rs 0 6).trans
      (BitVec.extractLsb'_eq_self)))
@[simp] theorem rsField_encRI (rs sub : BitVec 5) (imm : BitVec 16) : rsField (encRI rs sub imm) = rs :=
  (extract_high _ imm 5 5).trans ((extract_high _ sub 0 5).trans (extract_low _ rs))
@[simp] theorem rtField_encRI (rs sub : BitVec 5) (imm : BitVec 16) : rtField (encRI rs sub imm) = sub :=
  (extract_high _ imm 0 5).trans (extract_low _ sub)
@[simp] theorem immField_encRI (rs sub : BitVec 5) (imm : BitVec 16) : immField (encRI rs sub imm) = imm :=
  (extract_low _ imm)

-- encCM
@[simp] theorem opField_encCM (op : BitVec 6) (sub rt rd : BitVec 5) (low : BitVec 11) : opField (encCM op sub rt rd
    low) = op :=
  (extract_high _ low 15 6).trans ((extract_high _ rd 10 6).trans ((extract_high _ rt 5 6).trans ((extract_high _
      sub 0 6).trans (BitVec.extractLsb'_eq_self))))
@[simp] theorem rsField_encCM (op : BitVec 6) (sub rt rd : BitVec 5) (low : BitVec 11) : rsField (encCM op sub rt rd
    low) = sub :=
  (extract_high _ low 10 5).trans ((extract_high _ rd 5 5).trans ((extract_high _ rt 0 5).trans (extract_low _ sub)))
@[simp] theorem rtField_encCM (op : BitVec 6) (sub rt rd : BitVec 5) (low : BitVec 11) : rtField (encCM op sub rt rd
    low) = rt :=
  (extract_high _ low 5 5).trans ((extract_high _ rd 0 5).trans (extract_low _ rt))
@[simp] theorem rdField_encCM (op : BitVec 6) (sub rt rd : BitVec 5) (low : BitVec 11) : rdField (encCM op sub rt rd
    low) = rd :=
  (extract_high _ low 0 5).trans (extract_low _ rd)
@[simp] theorem lowField_encCM (op : BitVec 6) (sub rt rd : BitVec 5) (low : BitVec 11) : lowField (encCM op sub rt
    rd low) = low :=
  (extract_low _ low)

-- encCO
@[simp] theorem opField_encCO (f : BitVec 6) : opField (encCO f) = 0x10#6 :=
  (extract_high _ f 20 6).trans ((extract_high _ (0#15) 5 6).trans ((extract_high _ (0x10#5) 0 6).trans
      (BitVec.extractLsb'_eq_self)))
@[simp] theorem rsField_encCO (f : BitVec 6) : rsField (encCO f) = 0x10#5 :=
  (extract_high _ f 15 5).trans ((extract_high _ (0#15) 0 5).trans (extract_low _ (0x10#5)))
@[simp] theorem functField_encCO (f : BitVec 6) : functField (encCO f) = f :=
  (extract_low _ f)
@[simp] theorem bit25_encCO (f : BitVec 6) : (encCO f).getLsbD 25 = true :=
  (BitVec.getLsbD_append (x := 0x10#6 ++ 0x10#5 ++ 0#15) (y := f)).trans (by simp)

-- encCB
@[simp] theorem opField_encCB (cond : BitVec 5) (imm : BitVec 16) : opField (encCB cond imm) = 0x11#6 :=
  (extract_high _ imm 10 6).trans ((extract_high _ cond 5 6).trans ((extract_high _ (0x08#5) 0 6).trans
      (BitVec.extractLsb'_eq_self)))
@[simp] theorem rsField_encCB (cond : BitVec 5) (imm : BitVec 16) : rsField (encCB cond imm) = 0x08#5 :=
  (extract_high _ imm 5 5).trans ((extract_high _ cond 0 5).trans (extract_low _ (0x08#5)))
@[simp] theorem rtField_encCB (cond : BitVec 5) (imm : BitVec 16) : rtField (encCB cond imm) = cond :=
  (extract_high _ imm 0 5).trans (extract_low _ cond)
@[simp] theorem immField_encCB (cond : BitVec 5) (imm : BitVec 16) : immField (encCB cond imm) = imm :=
  (extract_low _ imm)

-- encCF
@[simp] theorem opField_encCF (fmt : BitVec 5) (fn : BitVec 21) : opField (encCF fmt fn) = 0x11#6 :=
  (extract_high _ fn 5 6).trans ((extract_high _ fmt 0 6).trans (BitVec.extractLsb'_eq_self))
@[simp] theorem rsField_encCF (fmt : BitVec 5) (fn : BitVec 21) : rsField (encCF fmt fn) = fmt :=
  (extract_high _ fn 0 5).trans (extract_low _ fmt)
@[simp] theorem copFnField_encCF (fmt : BitVec 5) (fn : BitVec 21) : copFnField (encCF fmt fn) = fn :=
  (extract_low _ fn)

/-- A word laid out in bytes and read back is itself (R93, R160). -/
theorem wordOfBytes_bytesOfWord (w : Word) :
    wordOfBytes (w.extractLsb' 24 8) (w.extractLsb' 16 8) (w.extractLsb' 8 8) (w.extractLsb' 0 8) = w := by
  apply BitVec.eq_of_getLsbD_eq
  intro i hi
  simp only [wordOfBytes, BitVec.getLsbD_append, BitVec.getLsbD_extractLsb']
  split
  · next h => simp [h]
  · next h =>
    split
    · next h2 =>
      simp only [show i - 8 < 8 from h2, decide_true, Bool.true_and]
      congr 1
      omega
    · next h2 =>
      split
      · next h3 =>
        simp only [show i - 8 - 8 < 8 from h3, decide_true, Bool.true_and]
        congr 1
        omega
      · next h3 =>
        have h4 : i - 8 - 8 - 8 < 8 := by omega
        simp only [h4, decide_true, Bool.true_and]
        congr 1
        omega

/-- Decoding the bytes of a word is decoding the word. -/
theorem decodeBytes_bytesOfWord (w : Word) (rest : List (BitVec 8)) :
    decodeBytes (bytesOfWord w ++ rest) =
      match decode w with
      | .ok i => .ok (i, rest)
      | .error e => .error e := by
  cases h : decode w <;>
    simp only [bytesOfWord, List.cons_append, List.nil_append, decodeBytes, wordOfBytes_bytesOfWord, h]

end Sys2Proof.Laws
end

