-- ==== Sys2Proof/Laws/Decode.lean ====
section
/-! SUPPORT. The decoder's tables, slot by slot: what each value of the index field decodes to. -/

namespace Sys2Proof.Laws

theorem decode_special (w : Word) : decodeOp 0x00#6 w = decodeSpecial (functField w) w := rfl

theorem decode_regimm (w : Word) : decodeOp 0x01#6 w = decodeRegimm (rtField w) w := rfl

theorem decode_cop0 (w : Word) : decodeOp 0x10#6 w = decodeCop0 (rsField w) w := rfl

theorem decode_cop1 (w : Word) : decodeOp 0x11#6 w = decodeCop1 (rsField w) w := rfl

theorem decode_addi (w : Word) : decodeOp 0x08#6 w = .ok (.addi (rtField w) (rsField w) (immField w)) := rfl

theorem decode_addiu (w : Word) : decodeOp 0x09#6 w = .ok (.addiu (rtField w) (rsField w) (immField w)) := rfl

theorem decode_daddi (w : Word) : decodeOp 0x18#6 w = .ok (.daddi (rtField w) (rsField w) (immField w)) := rfl

theorem decode_daddiu (w : Word) : decodeOp 0x19#6 w = .ok (.daddiu (rtField w) (rsField w) (immField w)) := rfl

theorem decode_andi (w : Word) : decodeOp 0x0C#6 w = .ok (.andi (rtField w) (rsField w) (immField w)) := rfl

theorem decode_ori (w : Word) : decodeOp 0x0D#6 w = .ok (.ori (rtField w) (rsField w) (immField w)) := rfl

theorem decode_xori (w : Word) : decodeOp 0x0E#6 w = .ok (.xori (rtField w) (rsField w) (immField w)) := rfl

theorem decode_lui (w : Word) : decodeOp 0x0F#6 w = .ok (.lui (rtField w) (immField w)) := rfl

theorem decode_slti (w : Word) : decodeOp 0x0A#6 w = .ok (.slti (rtField w) (rsField w) (immField w)) := rfl

theorem decode_sltiu (w : Word) : decodeOp 0x0B#6 w = .ok (.sltiu (rtField w) (rsField w) (immField w)) := rfl

theorem decode_j (w : Word) : decodeOp 0x02#6 w = .ok (.j (targetField w)) := rfl

theorem decode_jal (w : Word) : decodeOp 0x03#6 w = .ok (.jal (targetField w)) := rfl

theorem decode_beq (w : Word) : decodeOp 0x04#6 w = .ok (.beq (rsField w) (rtField w) (immField w)) := rfl

theorem decode_bne (w : Word) : decodeOp 0x05#6 w = .ok (.bne (rsField w) (rtField w) (immField w)) := rfl

theorem decode_blez (w : Word) : decodeOp 0x06#6 w = .ok (.blez (rsField w) (immField w)) := rfl

theorem decode_bgtz (w : Word) : decodeOp 0x07#6 w = .ok (.bgtz (rsField w) (immField w)) := rfl

theorem decode_beql (w : Word) : decodeOp 0x14#6 w = .ok (.beql (rsField w) (rtField w) (immField w)) := rfl

theorem decode_bnel (w : Word) : decodeOp 0x15#6 w = .ok (.bnel (rsField w) (rtField w) (immField w)) := rfl

theorem decode_blezl (w : Word) : decodeOp 0x16#6 w = .ok (.blezl (rsField w) (immField w)) := rfl

theorem decode_bgtzl (w : Word) : decodeOp 0x17#6 w = .ok (.bgtzl (rsField w) (immField w)) := rfl

theorem decode_lb (w : Word) : decodeOp 0x20#6 w = .ok (.lb (rtField w) (rsField w) (immField w)) := rfl

theorem decode_lbu (w : Word) : decodeOp 0x24#6 w = .ok (.lbu (rtField w) (rsField w) (immField w)) := rfl

theorem decode_lh (w : Word) : decodeOp 0x21#6 w = .ok (.lh (rtField w) (rsField w) (immField w)) := rfl

theorem decode_lhu (w : Word) : decodeOp 0x25#6 w = .ok (.lhu (rtField w) (rsField w) (immField w)) := rfl

theorem decode_lw (w : Word) : decodeOp 0x23#6 w = .ok (.lw (rtField w) (rsField w) (immField w)) := rfl

theorem decode_lwu (w : Word) : decodeOp 0x27#6 w = .ok (.lwu (rtField w) (rsField w) (immField w)) := rfl

theorem decode_ld (w : Word) : decodeOp 0x37#6 w = .ok (.ld (rtField w) (rsField w) (immField w)) := rfl

theorem decode_lwl (w : Word) : decodeOp 0x22#6 w = .ok (.lwl (rtField w) (rsField w) (immField w)) := rfl

theorem decode_lwr (w : Word) : decodeOp 0x26#6 w = .ok (.lwr (rtField w) (rsField w) (immField w)) := rfl

theorem decode_ldl (w : Word) : decodeOp 0x1A#6 w = .ok (.ldl (rtField w) (rsField w) (immField w)) := rfl

theorem decode_ldr (w : Word) : decodeOp 0x1B#6 w = .ok (.ldr (rtField w) (rsField w) (immField w)) := rfl

theorem decode_sb (w : Word) : decodeOp 0x28#6 w = .ok (.sb (rtField w) (rsField w) (immField w)) := rfl

theorem decode_sh (w : Word) : decodeOp 0x29#6 w = .ok (.sh (rtField w) (rsField w) (immField w)) := rfl

theorem decode_sw (w : Word) : decodeOp 0x2B#6 w = .ok (.sw (rtField w) (rsField w) (immField w)) := rfl

theorem decode_sd (w : Word) : decodeOp 0x3F#6 w = .ok (.sd (rtField w) (rsField w) (immField w)) := rfl

theorem decode_swl (w : Word) : decodeOp 0x2A#6 w = .ok (.swl (rtField w) (rsField w) (immField w)) := rfl

theorem decode_swr (w : Word) : decodeOp 0x2E#6 w = .ok (.swr (rtField w) (rsField w) (immField w)) := rfl

theorem decode_sdl (w : Word) : decodeOp 0x2C#6 w = .ok (.sdl (rtField w) (rsField w) (immField w)) := rfl

theorem decode_sdr (w : Word) : decodeOp 0x2D#6 w = .ok (.sdr (rtField w) (rsField w) (immField w)) := rfl

theorem decode_ll (w : Word) : decodeOp 0x30#6 w = .ok (.ll (rtField w) (rsField w) (immField w)) := rfl

theorem decode_lld (w : Word) : decodeOp 0x34#6 w = .ok (.lld (rtField w) (rsField w) (immField w)) := rfl

theorem decode_sc (w : Word) : decodeOp 0x38#6 w = .ok (.sc (rtField w) (rsField w) (immField w)) := rfl

theorem decode_scd (w : Word) : decodeOp 0x3C#6 w = .ok (.scd (rtField w) (rsField w) (immField w)) := rfl

theorem decode_cache (w : Word) : decodeOp 0x2F#6 w = .ok (.cache (rtField w) (rsField w) (immField w)) := rfl

theorem decode_lwc1 (w : Word) : decodeOp 0x31#6 w = .ok (.lwc1 (rtField w) (rsField w) (immField w)) := rfl

theorem decode_ldc1 (w : Word) : decodeOp 0x35#6 w = .ok (.ldc1 (rtField w) (rsField w) (immField w)) := rfl

theorem decode_swc1 (w : Word) : decodeOp 0x39#6 w = .ok (.swc1 (rtField w) (rsField w) (immField w)) := rfl

theorem decode_sdc1 (w : Word) : decodeOp 0x3D#6 w = .ok (.sdc1 (rtField w) (rsField w) (immField w)) := rfl

theorem decodeSpecial_add (w : Word) : decodeSpecial 0x20#6 w = .ok (.add (rdField w) (rsField w) (rtField w)) := rfl

theorem decodeSpecial_addu (w : Word) : decodeSpecial 0x21#6 w = .ok (.addu (rdField w) (rsField w) (rtField w)) :=
    rfl

theorem decodeSpecial_sub (w : Word) : decodeSpecial 0x22#6 w = .ok (.sub (rdField w) (rsField w) (rtField w)) := rfl

theorem decodeSpecial_subu (w : Word) : decodeSpecial 0x23#6 w = .ok (.subu (rdField w) (rsField w) (rtField w)) :=
    rfl

theorem decodeSpecial_dadd (w : Word) : decodeSpecial 0x2C#6 w = .ok (.dadd (rdField w) (rsField w) (rtField w)) :=
    rfl

theorem decodeSpecial_daddu (w : Word) : decodeSpecial 0x2D#6 w = .ok (.daddu (rdField w) (rsField w) (rtField w))
    := rfl

theorem decodeSpecial_dsub (w : Word) : decodeSpecial 0x2E#6 w = .ok (.dsub (rdField w) (rsField w) (rtField w)) :=
    rfl

theorem decodeSpecial_dsubu (w : Word) : decodeSpecial 0x2F#6 w = .ok (.dsubu (rdField w) (rsField w) (rtField w))
    := rfl

theorem decodeSpecial_and (w : Word) : decodeSpecial 0x24#6 w = .ok (.and (rdField w) (rsField w) (rtField w)) := rfl

theorem decodeSpecial_or (w : Word) : decodeSpecial 0x25#6 w = .ok (.or (rdField w) (rsField w) (rtField w)) := rfl

theorem decodeSpecial_xor (w : Word) : decodeSpecial 0x26#6 w = .ok (.xor (rdField w) (rsField w) (rtField w)) := rfl

theorem decodeSpecial_nor (w : Word) : decodeSpecial 0x27#6 w = .ok (.nor (rdField w) (rsField w) (rtField w)) := rfl

theorem decodeSpecial_slt (w : Word) : decodeSpecial 0x2A#6 w = .ok (.slt (rdField w) (rsField w) (rtField w)) := rfl

theorem decodeSpecial_sltu (w : Word) : decodeSpecial 0x2B#6 w = .ok (.sltu (rdField w) (rsField w) (rtField w)) :=
    rfl

theorem decodeSpecial_sll (w : Word) : decodeSpecial 0x00#6 w = .ok (.sll (rdField w) (rtField w) (saField w)) := rfl

theorem decodeSpecial_srl (w : Word) : decodeSpecial 0x02#6 w = .ok (.srl (rdField w) (rtField w) (saField w)) := rfl

theorem decodeSpecial_sra (w : Word) : decodeSpecial 0x03#6 w = .ok (.sra (rdField w) (rtField w) (saField w)) := rfl

theorem decodeSpecial_sllv (w : Word) : decodeSpecial 0x04#6 w = .ok (.sllv (rdField w) (rtField w) (rsField w)) :=
    rfl

theorem decodeSpecial_srlv (w : Word) : decodeSpecial 0x06#6 w = .ok (.srlv (rdField w) (rtField w) (rsField w)) :=
    rfl

theorem decodeSpecial_srav (w : Word) : decodeSpecial 0x07#6 w = .ok (.srav (rdField w) (rtField w) (rsField w)) :=
    rfl

theorem decodeSpecial_dsll (w : Word) : decodeSpecial 0x38#6 w = .ok (.dsll (rdField w) (rtField w) (saField w)) :=
    rfl

theorem decodeSpecial_dsrl (w : Word) : decodeSpecial 0x3A#6 w = .ok (.dsrl (rdField w) (rtField w) (saField w)) :=
    rfl

theorem decodeSpecial_dsra (w : Word) : decodeSpecial 0x3B#6 w = .ok (.dsra (rdField w) (rtField w) (saField w)) :=
    rfl

theorem decodeSpecial_dsllv (w : Word) : decodeSpecial 0x14#6 w = .ok (.dsllv (rdField w) (rtField w) (rsField w))
    := rfl

theorem decodeSpecial_dsrlv (w : Word) : decodeSpecial 0x16#6 w = .ok (.dsrlv (rdField w) (rtField w) (rsField w))
    := rfl

theorem decodeSpecial_dsrav (w : Word) : decodeSpecial 0x17#6 w = .ok (.dsrav (rdField w) (rtField w) (rsField w))
    := rfl

theorem decodeSpecial_dsll32 (w : Word) : decodeSpecial 0x3C#6 w = .ok (.dsll32 (rdField w) (rtField w) (saField w))
    := rfl

theorem decodeSpecial_dsrl32 (w : Word) : decodeSpecial 0x3E#6 w = .ok (.dsrl32 (rdField w) (rtField w) (saField w))
    := rfl

theorem decodeSpecial_dsra32 (w : Word) : decodeSpecial 0x3F#6 w = .ok (.dsra32 (rdField w) (rtField w) (saField w))
    := rfl

theorem decodeSpecial_mult (w : Word) : decodeSpecial 0x18#6 w = .ok (.mult (rsField w) (rtField w)) := rfl

theorem decodeSpecial_multu (w : Word) : decodeSpecial 0x19#6 w = .ok (.multu (rsField w) (rtField w)) := rfl

theorem decodeSpecial_div (w : Word) : decodeSpecial 0x1A#6 w = .ok (.div (rsField w) (rtField w)) := rfl

theorem decodeSpecial_divu (w : Word) : decodeSpecial 0x1B#6 w = .ok (.divu (rsField w) (rtField w)) := rfl

theorem decodeSpecial_dmult (w : Word) : decodeSpecial 0x1C#6 w = .ok (.dmult (rsField w) (rtField w)) := rfl

theorem decodeSpecial_dmultu (w : Word) : decodeSpecial 0x1D#6 w = .ok (.dmultu (rsField w) (rtField w)) := rfl

theorem decodeSpecial_ddiv (w : Word) : decodeSpecial 0x1E#6 w = .ok (.ddiv (rsField w) (rtField w)) := rfl

theorem decodeSpecial_ddivu (w : Word) : decodeSpecial 0x1F#6 w = .ok (.ddivu (rsField w) (rtField w)) := rfl

theorem decodeSpecial_mfhi (w : Word) : decodeSpecial 0x10#6 w = .ok (.mfhi (rdField w)) := rfl

theorem decodeSpecial_mthi (w : Word) : decodeSpecial 0x11#6 w = .ok (.mthi (rsField w)) := rfl

theorem decodeSpecial_mflo (w : Word) : decodeSpecial 0x12#6 w = .ok (.mflo (rdField w)) := rfl

theorem decodeSpecial_mtlo (w : Word) : decodeSpecial 0x13#6 w = .ok (.mtlo (rsField w)) := rfl

theorem decodeSpecial_jr (w : Word) : decodeSpecial 0x08#6 w = .ok (.jr (rsField w)) := rfl

theorem decodeSpecial_jalr (w : Word) : decodeSpecial 0x09#6 w = .ok (.jalr (rdField w) (rsField w)) := rfl

theorem decodeSpecial_sync (w : Word) : decodeSpecial 0x0F#6 w = .ok .sync := rfl

theorem decodeSpecial_tge (w : Word) : decodeSpecial 0x30#6 w = .ok (.tge (rsField w) (rtField w) (code10Field w))
    := rfl

theorem decodeSpecial_tgeu (w : Word) : decodeSpecial 0x31#6 w = .ok (.tgeu (rsField w) (rtField w) (code10Field w))
    := rfl

theorem decodeSpecial_tlt (w : Word) : decodeSpecial 0x32#6 w = .ok (.tlt (rsField w) (rtField w) (code10Field w))
    := rfl

theorem decodeSpecial_tltu (w : Word) : decodeSpecial 0x33#6 w = .ok (.tltu (rsField w) (rtField w) (code10Field w))
    := rfl

theorem decodeSpecial_teq (w : Word) : decodeSpecial 0x34#6 w = .ok (.teq (rsField w) (rtField w) (code10Field w))
    := rfl

theorem decodeSpecial_tne (w : Word) : decodeSpecial 0x36#6 w = .ok (.tne (rsField w) (rtField w) (code10Field w))
    := rfl

theorem decodeSpecial_syscall (w : Word) : decodeSpecial 0x0C#6 w = .ok (.syscall (code20Field w)) := rfl

theorem decodeSpecial_brk (w : Word) : decodeSpecial 0x0D#6 w = .ok (.brk (code20Field w)) := rfl

theorem decodeRegimm_bltz (w : Word) : decodeRegimm 0x00#5 w = .ok (.bltz (rsField w) (immField w)) := rfl

theorem decodeRegimm_bgez (w : Word) : decodeRegimm 0x01#5 w = .ok (.bgez (rsField w) (immField w)) := rfl

theorem decodeRegimm_bltzl (w : Word) : decodeRegimm 0x02#5 w = .ok (.bltzl (rsField w) (immField w)) := rfl

theorem decodeRegimm_bgezl (w : Word) : decodeRegimm 0x03#5 w = .ok (.bgezl (rsField w) (immField w)) := rfl

theorem decodeRegimm_bltzal (w : Word) : decodeRegimm 0x10#5 w = .ok (.bltzal (rsField w) (immField w)) := rfl

theorem decodeRegimm_bgezal (w : Word) : decodeRegimm 0x11#5 w = .ok (.bgezal (rsField w) (immField w)) := rfl

theorem decodeRegimm_bltzall (w : Word) : decodeRegimm 0x12#5 w = .ok (.bltzall (rsField w) (immField w)) := rfl

theorem decodeRegimm_bgezall (w : Word) : decodeRegimm 0x13#5 w = .ok (.bgezall (rsField w) (immField w)) := rfl

theorem decodeRegimm_tgei (w : Word) : decodeRegimm 0x08#5 w = .ok (.tgei (rsField w) (immField w)) := rfl

theorem decodeRegimm_tgeiu (w : Word) : decodeRegimm 0x09#5 w = .ok (.tgeiu (rsField w) (immField w)) := rfl

theorem decodeRegimm_tlti (w : Word) : decodeRegimm 0x0A#5 w = .ok (.tlti (rsField w) (immField w)) := rfl

theorem decodeRegimm_tltiu (w : Word) : decodeRegimm 0x0B#5 w = .ok (.tltiu (rsField w) (immField w)) := rfl

theorem decodeRegimm_teqi (w : Word) : decodeRegimm 0x0C#5 w = .ok (.teqi (rsField w) (immField w)) := rfl

theorem decodeRegimm_tnei (w : Word) : decodeRegimm 0x0E#5 w = .ok (.tnei (rsField w) (immField w)) := rfl

theorem decodeCop0_mfc0 (w : Word) : decodeCop0 0x00#5 w = .ok (.mfc0 (rtField w) (rdField w)) := rfl

theorem decodeCop0_dmfc0 (w : Word) : decodeCop0 0x01#5 w = .ok (.dmfc0 (rtField w) (rdField w)) := rfl

theorem decodeCop0_mtc0 (w : Word) : decodeCop0 0x04#5 w = .ok (.mtc0 (rtField w) (rdField w)) := rfl

theorem decodeCop0_dmtc0 (w : Word) : decodeCop0 0x05#5 w = .ok (.dmtc0 (rtField w) (rdField w)) := rfl

theorem decodeCop0_function {w : Word} (hb : w.getLsbD 25 = true) :
    decodeCop0 0x10#5 w = decodeCop0Function (functField w) :=
  if_pos hb

theorem decodeCop0Function_tlbr : decodeCop0Function 0x01#6 = .ok .tlbr := rfl

theorem decodeCop0Function_tlbwi : decodeCop0Function 0x02#6 = .ok .tlbwi := rfl

theorem decodeCop0Function_tlbwr : decodeCop0Function 0x06#6 = .ok .tlbwr := rfl

theorem decodeCop0Function_tlbp : decodeCop0Function 0x08#6 = .ok .tlbp := rfl

theorem decodeCop0Function_eret : decodeCop0Function 0x18#6 = .ok .eret := rfl

theorem decodeCop1_bc1 (w : Word) : decodeCop1 0x08#5 w = decodeBc1 (rtField w) w := rfl

theorem decodeCop1_mfc1 (w : Word) : decodeCop1 0x00#5 w = .ok (.mfc1 (rtField w) (rdField w) (lowField w)) := rfl

theorem decodeCop1_dmfc1 (w : Word) : decodeCop1 0x01#5 w = .ok (.dmfc1 (rtField w) (rdField w) (lowField w)) := rfl

theorem decodeCop1_cfc1 (w : Word) : decodeCop1 0x02#5 w = .ok (.cfc1 (rtField w) (rdField w) (lowField w)) := rfl

theorem decodeCop1_mtc1 (w : Word) : decodeCop1 0x04#5 w = .ok (.mtc1 (rtField w) (rdField w) (lowField w)) := rfl

theorem decodeCop1_dmtc1 (w : Word) : decodeCop1 0x05#5 w = .ok (.dmtc1 (rtField w) (rdField w) (lowField w)) := rfl

theorem decodeCop1_ctc1 (w : Word) : decodeCop1 0x06#5 w = .ok (.ctc1 (rtField w) (rdField w) (lowField w)) := rfl

theorem decodeCop1_cop1S (w : Word) : decodeCop1 0x10#5 w = .ok (.cop1S (copFnField w)) := rfl

theorem decodeCop1_cop1D (w : Word) : decodeCop1 0x11#5 w = .ok (.cop1D (copFnField w)) := rfl

theorem decodeCop1_cop1W (w : Word) : decodeCop1 0x14#5 w = .ok (.cop1W (copFnField w)) := rfl

theorem decodeCop1_cop1L (w : Word) : decodeCop1 0x15#5 w = .ok (.cop1L (copFnField w)) := rfl

theorem decodeBc1_bc1f (w : Word) : decodeBc1 0x00#5 w = .ok (.bc1f (immField w)) := rfl

theorem decodeBc1_bc1t (w : Word) : decodeBc1 0x01#5 w = .ok (.bc1t (immField w)) := rfl

theorem decodeBc1_bc1fl (w : Word) : decodeBc1 0x02#5 w = .ok (.bc1fl (immField w)) := rfl

theorem decodeBc1_bc1tl (w : Word) : decodeBc1 0x03#5 w = .ok (.bc1tl (immField w)) := rfl

end Sys2Proof.Laws
end

