-- ==== Sys2Proof/Laws/State.lean ====
section
/-! SUPPORT. What each named update of the state leaves in each field: one lemma per field per update, true by
unfolding, so that no proof unfolds a record update. -/

namespace Sys2Proof.Laws

open Sys2Proof.Machine

-- writeReg
@[simp] theorem writeReg_gpr (r : RegIdx) (v : DWord) (s : State) : (s.writeReg r v).gpr = writeGpr s.gpr r v := rfl
@[simp] theorem writeReg_hi (r : RegIdx) (v : DWord) (s : State) : (s.writeReg r v).hi = s.hi := rfl
@[simp] theorem writeReg_lo (r : RegIdx) (v : DWord) (s : State) : (s.writeReg r v).lo = s.lo := rfl
@[simp] theorem writeReg_pc (r : RegIdx) (v : DWord) (s : State) : (s.writeReg r v).pc = s.pc := rfl
@[simp] theorem writeReg_nextPC (r : RegIdx) (v : DWord) (s : State) : (s.writeReg r v).nextPC = s.nextPC := rfl
@[simp] theorem writeReg_oldPC (r : RegIdx) (v : DWord) (s : State) : (s.writeReg r v).oldPC = s.oldPC := rfl
@[simp] theorem writeReg_delaySlot (r : RegIdx) (v : DWord) (s : State) :
    (s.writeReg r v).delaySlot = s.delaySlot := rfl
@[simp] theorem writeReg_curDS (r : RegIdx) (v : DWord) (s : State) : (s.writeReg r v).curDS = s.curDS := rfl
@[simp] theorem writeReg_llBit (r : RegIdx) (v : DWord) (s : State) : (s.writeReg r v).llBit = s.llBit := rfl
@[simp] theorem writeReg_tlbError (r : RegIdx) (v : DWord) (s : State) : (s.writeReg r v).tlbError = s.tlbError := rfl
@[simp] theorem writeReg_cop0 (r : RegIdx) (v : DWord) (s : State) : (s.writeReg r v).cop0 = s.cop0 := rfl
@[simp] theorem writeReg_tlb (r : RegIdx) (v : DWord) (s : State) : (s.writeReg r v).tlb = s.tlb := rfl
@[simp] theorem writeReg_mem (r : RegIdx) (v : DWord) (s : State) : (s.writeReg r v).mem = s.mem := rfl
@[simp] theorem writeReg_params (r : RegIdx) (v : DWord) (s : State) : (s.writeReg r v).params = s.params := rfl
@[simp] theorem writeReg_schedule (r : RegIdx) (v : DWord) (s : State) : (s.writeReg r v).schedule = s.schedule := rfl
@[simp] theorem writeReg_ports (r : RegIdx) (v : DWord) (s : State) : (s.writeReg r v).ports = s.ports := rfl
@[simp] theorem writeReg_draws (r : RegIdx) (v : DWord) (s : State) : (s.writeReg r v).draws = s.draws := rfl

-- setHi
@[simp] theorem setHi_gpr (v : DWord) (s : State) : (s.setHi v).gpr = s.gpr := rfl
@[simp] theorem setHi_hi (v : DWord) (s : State) : (s.setHi v).hi = v := rfl
@[simp] theorem setHi_lo (v : DWord) (s : State) : (s.setHi v).lo = s.lo := rfl
@[simp] theorem setHi_pc (v : DWord) (s : State) : (s.setHi v).pc = s.pc := rfl
@[simp] theorem setHi_nextPC (v : DWord) (s : State) : (s.setHi v).nextPC = s.nextPC := rfl
@[simp] theorem setHi_oldPC (v : DWord) (s : State) : (s.setHi v).oldPC = s.oldPC := rfl
@[simp] theorem setHi_delaySlot (v : DWord) (s : State) : (s.setHi v).delaySlot = s.delaySlot := rfl
@[simp] theorem setHi_curDS (v : DWord) (s : State) : (s.setHi v).curDS = s.curDS := rfl
@[simp] theorem setHi_llBit (v : DWord) (s : State) : (s.setHi v).llBit = s.llBit := rfl
@[simp] theorem setHi_tlbError (v : DWord) (s : State) : (s.setHi v).tlbError = s.tlbError := rfl
@[simp] theorem setHi_cop0 (v : DWord) (s : State) : (s.setHi v).cop0 = s.cop0 := rfl
@[simp] theorem setHi_tlb (v : DWord) (s : State) : (s.setHi v).tlb = s.tlb := rfl
@[simp] theorem setHi_mem (v : DWord) (s : State) : (s.setHi v).mem = s.mem := rfl
@[simp] theorem setHi_params (v : DWord) (s : State) : (s.setHi v).params = s.params := rfl
@[simp] theorem setHi_schedule (v : DWord) (s : State) : (s.setHi v).schedule = s.schedule := rfl
@[simp] theorem setHi_ports (v : DWord) (s : State) : (s.setHi v).ports = s.ports := rfl
@[simp] theorem setHi_draws (v : DWord) (s : State) : (s.setHi v).draws = s.draws := rfl

-- setLo
@[simp] theorem setLo_gpr (v : DWord) (s : State) : (s.setLo v).gpr = s.gpr := rfl
@[simp] theorem setLo_hi (v : DWord) (s : State) : (s.setLo v).hi = s.hi := rfl
@[simp] theorem setLo_lo (v : DWord) (s : State) : (s.setLo v).lo = v := rfl
@[simp] theorem setLo_pc (v : DWord) (s : State) : (s.setLo v).pc = s.pc := rfl
@[simp] theorem setLo_nextPC (v : DWord) (s : State) : (s.setLo v).nextPC = s.nextPC := rfl
@[simp] theorem setLo_oldPC (v : DWord) (s : State) : (s.setLo v).oldPC = s.oldPC := rfl
@[simp] theorem setLo_delaySlot (v : DWord) (s : State) : (s.setLo v).delaySlot = s.delaySlot := rfl
@[simp] theorem setLo_curDS (v : DWord) (s : State) : (s.setLo v).curDS = s.curDS := rfl
@[simp] theorem setLo_llBit (v : DWord) (s : State) : (s.setLo v).llBit = s.llBit := rfl
@[simp] theorem setLo_tlbError (v : DWord) (s : State) : (s.setLo v).tlbError = s.tlbError := rfl
@[simp] theorem setLo_cop0 (v : DWord) (s : State) : (s.setLo v).cop0 = s.cop0 := rfl
@[simp] theorem setLo_tlb (v : DWord) (s : State) : (s.setLo v).tlb = s.tlb := rfl
@[simp] theorem setLo_mem (v : DWord) (s : State) : (s.setLo v).mem = s.mem := rfl
@[simp] theorem setLo_params (v : DWord) (s : State) : (s.setLo v).params = s.params := rfl
@[simp] theorem setLo_schedule (v : DWord) (s : State) : (s.setLo v).schedule = s.schedule := rfl
@[simp] theorem setLo_ports (v : DWord) (s : State) : (s.setLo v).ports = s.ports := rfl
@[simp] theorem setLo_draws (v : DWord) (s : State) : (s.setLo v).draws = s.draws := rfl

-- setHiLo
@[simp] theorem setHiLo_gpr (h l : DWord) (s : State) : (s.setHiLo h l).gpr = s.gpr := rfl
@[simp] theorem setHiLo_hi (h l : DWord) (s : State) : (s.setHiLo h l).hi = h := rfl
@[simp] theorem setHiLo_lo (h l : DWord) (s : State) : (s.setHiLo h l).lo = l := rfl
@[simp] theorem setHiLo_pc (h l : DWord) (s : State) : (s.setHiLo h l).pc = s.pc := rfl
@[simp] theorem setHiLo_nextPC (h l : DWord) (s : State) : (s.setHiLo h l).nextPC = s.nextPC := rfl
@[simp] theorem setHiLo_oldPC (h l : DWord) (s : State) : (s.setHiLo h l).oldPC = s.oldPC := rfl
@[simp] theorem setHiLo_delaySlot (h l : DWord) (s : State) : (s.setHiLo h l).delaySlot = s.delaySlot := rfl
@[simp] theorem setHiLo_curDS (h l : DWord) (s : State) : (s.setHiLo h l).curDS = s.curDS := rfl
@[simp] theorem setHiLo_llBit (h l : DWord) (s : State) : (s.setHiLo h l).llBit = s.llBit := rfl
@[simp] theorem setHiLo_tlbError (h l : DWord) (s : State) : (s.setHiLo h l).tlbError = s.tlbError := rfl
@[simp] theorem setHiLo_cop0 (h l : DWord) (s : State) : (s.setHiLo h l).cop0 = s.cop0 := rfl
@[simp] theorem setHiLo_tlb (h l : DWord) (s : State) : (s.setHiLo h l).tlb = s.tlb := rfl
@[simp] theorem setHiLo_mem (h l : DWord) (s : State) : (s.setHiLo h l).mem = s.mem := rfl
@[simp] theorem setHiLo_params (h l : DWord) (s : State) : (s.setHiLo h l).params = s.params := rfl
@[simp] theorem setHiLo_schedule (h l : DWord) (s : State) : (s.setHiLo h l).schedule = s.schedule := rfl
@[simp] theorem setHiLo_ports (h l : DWord) (s : State) : (s.setHiLo h l).ports = s.ports := rfl
@[simp] theorem setHiLo_draws (h l : DWord) (s : State) : (s.setHiLo h l).draws = s.draws := rfl

-- link
@[simp] theorem link_gpr (r : RegIdx) (s : State) : (s.link r).gpr = writeGpr s.gpr r s.nextPC := rfl
@[simp] theorem link_hi (r : RegIdx) (s : State) : (s.link r).hi = s.hi := rfl
@[simp] theorem link_lo (r : RegIdx) (s : State) : (s.link r).lo = s.lo := rfl
@[simp] theorem link_pc (r : RegIdx) (s : State) : (s.link r).pc = s.pc := rfl
@[simp] theorem link_nextPC (r : RegIdx) (s : State) : (s.link r).nextPC = s.nextPC := rfl
@[simp] theorem link_oldPC (r : RegIdx) (s : State) : (s.link r).oldPC = s.oldPC := rfl
@[simp] theorem link_delaySlot (r : RegIdx) (s : State) : (s.link r).delaySlot = s.delaySlot := rfl
@[simp] theorem link_curDS (r : RegIdx) (s : State) : (s.link r).curDS = s.curDS := rfl
@[simp] theorem link_llBit (r : RegIdx) (s : State) : (s.link r).llBit = s.llBit := rfl
@[simp] theorem link_tlbError (r : RegIdx) (s : State) : (s.link r).tlbError = s.tlbError := rfl
@[simp] theorem link_cop0 (r : RegIdx) (s : State) : (s.link r).cop0 = s.cop0 := rfl
@[simp] theorem link_tlb (r : RegIdx) (s : State) : (s.link r).tlb = s.tlb := rfl
@[simp] theorem link_mem (r : RegIdx) (s : State) : (s.link r).mem = s.mem := rfl
@[simp] theorem link_params (r : RegIdx) (s : State) : (s.link r).params = s.params := rfl
@[simp] theorem link_schedule (r : RegIdx) (s : State) : (s.link r).schedule = s.schedule := rfl
@[simp] theorem link_ports (r : RegIdx) (s : State) : (s.link r).ports = s.ports := rfl
@[simp] theorem link_draws (r : RegIdx) (s : State) : (s.link r).draws = s.draws := rfl

-- raise
@[simp] theorem raise_gpr (kind : ExcKind) (cop : BitVec 2) (epcPc : VAddr) (inDs : Bool) (s : State) :
    (s.raise kind cop epcPc inDs).gpr = s.gpr := rfl
@[simp] theorem raise_hi (kind : ExcKind) (cop : BitVec 2) (epcPc : VAddr) (inDs : Bool) (s : State) :
    (s.raise kind cop epcPc inDs).hi = s.hi := rfl
@[simp] theorem raise_lo (kind : ExcKind) (cop : BitVec 2) (epcPc : VAddr) (inDs : Bool) (s : State) :
    (s.raise kind cop epcPc inDs).lo = s.lo := rfl
@[simp] theorem raise_pc (kind : ExcKind) (cop : BitVec 2) (epcPc : VAddr) (inDs : Bool) (s : State) :
    (s.raise kind cop epcPc inDs).pc = s.handler kind := rfl
@[simp] theorem raise_nextPC (kind : ExcKind) (cop : BitVec 2) (epcPc : VAddr) (inDs : Bool) (s : State) :
    (s.raise kind cop epcPc inDs).nextPC = s.handler kind + 4#64 := rfl
@[simp] theorem raise_oldPC (kind : ExcKind) (cop : BitVec 2) (epcPc : VAddr) (inDs : Bool) (s : State) :
    (s.raise kind cop epcPc inDs).oldPC = s.oldPC := rfl
@[simp] theorem raise_delaySlot (kind : ExcKind) (cop : BitVec 2) (epcPc : VAddr) (inDs : Bool) (s : State) :
    (s.raise kind cop epcPc inDs).delaySlot = s.delaySlot := rfl
@[simp] theorem raise_curDS (kind : ExcKind) (cop : BitVec 2) (epcPc : VAddr) (inDs : Bool) (s : State) :
    (s.raise kind cop epcPc inDs).curDS = s.curDS := rfl
@[simp] theorem raise_llBit (kind : ExcKind) (cop : BitVec 2) (epcPc : VAddr) (inDs : Bool) (s : State) :
    (s.raise kind cop epcPc inDs).llBit = s.llBit := rfl
@[simp] theorem raise_tlbError (kind : ExcKind) (cop : BitVec 2) (epcPc : VAddr) (inDs : Bool) (s : State) :
    (s.raise kind cop epcPc inDs).tlbError = s.tlbError := rfl
@[simp] theorem raise_cop0 (kind : ExcKind) (cop : BitVec 2) (epcPc : VAddr) (inDs : Bool) (s : State) :
    (s.raise kind cop epcPc inDs).cop0 = s.cop0.raise kind cop epcPc inDs := rfl
@[simp] theorem raise_tlb (kind : ExcKind) (cop : BitVec 2) (epcPc : VAddr) (inDs : Bool) (s : State) :
    (s.raise kind cop epcPc inDs).tlb = s.tlb := rfl
@[simp] theorem raise_mem (kind : ExcKind) (cop : BitVec 2) (epcPc : VAddr) (inDs : Bool) (s : State) :
    (s.raise kind cop epcPc inDs).mem = s.mem := rfl
@[simp] theorem raise_params (kind : ExcKind) (cop : BitVec 2) (epcPc : VAddr) (inDs : Bool) (s : State) :
    (s.raise kind cop epcPc inDs).params = s.params := rfl
@[simp] theorem raise_schedule (kind : ExcKind) (cop : BitVec 2) (epcPc : VAddr) (inDs : Bool) (s : State) :
    (s.raise kind cop epcPc inDs).schedule = s.schedule := rfl
@[simp] theorem raise_ports (kind : ExcKind) (cop : BitVec 2) (epcPc : VAddr) (inDs : Bool) (s : State) :
    (s.raise kind cop epcPc inDs).ports = s.ports := rfl
@[simp] theorem raise_draws (kind : ExcKind) (cop : BitVec 2) (epcPc : VAddr) (inDs : Bool) (s : State) :
    (s.raise kind cop epcPc inDs).draws = s.draws := rfl

-- recordFault
@[simp] theorem recordFault_gpr (va : VAddr) (s : State) : (s.recordFault va).gpr = s.gpr := rfl
@[simp] theorem recordFault_hi (va : VAddr) (s : State) : (s.recordFault va).hi = s.hi := rfl
@[simp] theorem recordFault_lo (va : VAddr) (s : State) : (s.recordFault va).lo = s.lo := rfl
@[simp] theorem recordFault_pc (va : VAddr) (s : State) : (s.recordFault va).pc = s.pc := rfl
@[simp] theorem recordFault_nextPC (va : VAddr) (s : State) : (s.recordFault va).nextPC = s.nextPC := rfl
@[simp] theorem recordFault_oldPC (va : VAddr) (s : State) : (s.recordFault va).oldPC = s.oldPC := rfl
@[simp] theorem recordFault_delaySlot (va : VAddr) (s : State) : (s.recordFault va).delaySlot = s.delaySlot := rfl
@[simp] theorem recordFault_curDS (va : VAddr) (s : State) : (s.recordFault va).curDS = s.curDS := rfl
@[simp] theorem recordFault_llBit (va : VAddr) (s : State) : (s.recordFault va).llBit = s.llBit := rfl
@[simp] theorem recordFault_tlbError (va : VAddr) (s : State) : (s.recordFault va).tlbError = s.tlbError := rfl
@[simp] theorem recordFault_cop0 (va : VAddr) (s : State) : (s.recordFault va).cop0 = s.cop0.recordFault va := rfl
@[simp] theorem recordFault_tlb (va : VAddr) (s : State) : (s.recordFault va).tlb = s.tlb := rfl
@[simp] theorem recordFault_mem (va : VAddr) (s : State) : (s.recordFault va).mem = s.mem := rfl
@[simp] theorem recordFault_params (va : VAddr) (s : State) : (s.recordFault va).params = s.params := rfl
@[simp] theorem recordFault_schedule (va : VAddr) (s : State) : (s.recordFault va).schedule = s.schedule := rfl
@[simp] theorem recordFault_ports (va : VAddr) (s : State) : (s.recordFault va).ports = s.ports := rfl
@[simp] theorem recordFault_draws (va : VAddr) (s : State) : (s.recordFault va).draws = s.draws := rfl

-- returnFromException
@[simp] theorem returnFromException_gpr (s : State) : (s.returnFromException).gpr = s.gpr := rfl
@[simp] theorem returnFromException_hi (s : State) : (s.returnFromException).hi = s.hi := rfl
@[simp] theorem returnFromException_lo (s : State) : (s.returnFromException).lo = s.lo := rfl
@[simp] theorem returnFromException_pc (s : State) : (s.returnFromException).pc = s.cop0.eretTarget := rfl
@[simp] theorem returnFromException_nextPC (s : State) :
    (s.returnFromException).nextPC = s.cop0.eretTarget + 4#64 := rfl
@[simp] theorem returnFromException_oldPC (s : State) : (s.returnFromException).oldPC = s.oldPC := rfl
@[simp] theorem returnFromException_delaySlot (s : State) : (s.returnFromException).delaySlot = s.delaySlot := rfl
@[simp] theorem returnFromException_curDS (s : State) : (s.returnFromException).curDS = s.curDS := rfl
@[simp] theorem returnFromException_llBit (s : State) : (s.returnFromException).llBit = false := rfl
@[simp] theorem returnFromException_tlbError (s : State) : (s.returnFromException).tlbError = s.tlbError := rfl
@[simp] theorem returnFromException_cop0 (s : State) :
    (s.returnFromException).cop0 = { s.cop0 with status := eretStatus s.cop0.status } := rfl
@[simp] theorem returnFromException_tlb (s : State) : (s.returnFromException).tlb = s.tlb := rfl
@[simp] theorem returnFromException_mem (s : State) : (s.returnFromException).mem = s.mem := rfl
@[simp] theorem returnFromException_params (s : State) : (s.returnFromException).params = s.params := rfl
@[simp] theorem returnFromException_schedule (s : State) : (s.returnFromException).schedule = s.schedule := rfl
@[simp] theorem returnFromException_ports (s : State) : (s.returnFromException).ports = s.ports := rfl
@[simp] theorem returnFromException_draws (s : State) : (s.returnFromException).draws = s.draws := rfl

-- advance
@[simp] theorem advance_gpr (s : State) : (s.advance).gpr = s.gpr := rfl
@[simp] theorem advance_hi (s : State) : (s.advance).hi = s.hi := rfl
@[simp] theorem advance_lo (s : State) : (s.advance).lo = s.lo := rfl
@[simp] theorem advance_pc (s : State) : (s.advance).pc = s.nextPC := rfl
@[simp] theorem advance_nextPC (s : State) : (s.advance).nextPC = s.nextPC + 4#64 := rfl
@[simp] theorem advance_oldPC (s : State) : (s.advance).oldPC = s.pc := rfl
@[simp] theorem advance_delaySlot (s : State) : (s.advance).delaySlot = s.delaySlot := rfl
@[simp] theorem advance_curDS (s : State) : (s.advance).curDS = s.curDS := rfl
@[simp] theorem advance_llBit (s : State) : (s.advance).llBit = s.llBit := rfl
@[simp] theorem advance_tlbError (s : State) : (s.advance).tlbError = s.tlbError := rfl
@[simp] theorem advance_cop0 (s : State) : (s.advance).cop0 = s.cop0 := rfl
@[simp] theorem advance_tlb (s : State) : (s.advance).tlb = s.tlb := rfl
@[simp] theorem advance_mem (s : State) : (s.advance).mem = s.mem := rfl
@[simp] theorem advance_params (s : State) : (s.advance).params = s.params := rfl
@[simp] theorem advance_schedule (s : State) : (s.advance).schedule = s.schedule := rfl
@[simp] theorem advance_ports (s : State) : (s.advance).ports = s.ports := rfl
@[simp] theorem advance_draws (s : State) : (s.advance).draws = s.draws := rfl

-- branch
@[simp] theorem branch_gpr (c : Bool) (t : VAddr) (s : State) : (s.branch c t).gpr = s.gpr := rfl
@[simp] theorem branch_hi (c : Bool) (t : VAddr) (s : State) : (s.branch c t).hi = s.hi := rfl
@[simp] theorem branch_lo (c : Bool) (t : VAddr) (s : State) : (s.branch c t).lo = s.lo := rfl
@[simp] theorem branch_pc (c : Bool) (t : VAddr) (s : State) : (s.branch c t).pc = s.pc := rfl
@[simp] theorem branch_nextPC (c : Bool) (t : VAddr) (s : State) :
    (s.branch c t).nextPC = if c then t else s.nextPC := rfl
@[simp] theorem branch_oldPC (c : Bool) (t : VAddr) (s : State) : (s.branch c t).oldPC = s.oldPC := rfl
@[simp] theorem branch_delaySlot (c : Bool) (t : VAddr) (s : State) : (s.branch c t).delaySlot = true := rfl
@[simp] theorem branch_curDS (c : Bool) (t : VAddr) (s : State) : (s.branch c t).curDS = s.curDS := rfl
@[simp] theorem branch_llBit (c : Bool) (t : VAddr) (s : State) : (s.branch c t).llBit = s.llBit := rfl
@[simp] theorem branch_tlbError (c : Bool) (t : VAddr) (s : State) : (s.branch c t).tlbError = s.tlbError := rfl
@[simp] theorem branch_cop0 (c : Bool) (t : VAddr) (s : State) : (s.branch c t).cop0 = s.cop0 := rfl
@[simp] theorem branch_tlb (c : Bool) (t : VAddr) (s : State) : (s.branch c t).tlb = s.tlb := rfl
@[simp] theorem branch_mem (c : Bool) (t : VAddr) (s : State) : (s.branch c t).mem = s.mem := rfl
@[simp] theorem branch_params (c : Bool) (t : VAddr) (s : State) : (s.branch c t).params = s.params := rfl
@[simp] theorem branch_schedule (c : Bool) (t : VAddr) (s : State) : (s.branch c t).schedule = s.schedule := rfl
@[simp] theorem branch_ports (c : Bool) (t : VAddr) (s : State) : (s.branch c t).ports = s.ports := rfl
@[simp] theorem branch_draws (c : Bool) (t : VAddr) (s : State) : (s.branch c t).draws = s.draws := rfl

-- branchLikely
@[simp] theorem branchLikely_gpr (c : Bool) (t : VAddr) (s : State) : (s.branchLikely c t).gpr = s.gpr := rfl
@[simp] theorem branchLikely_hi (c : Bool) (t : VAddr) (s : State) : (s.branchLikely c t).hi = s.hi := rfl
@[simp] theorem branchLikely_lo (c : Bool) (t : VAddr) (s : State) : (s.branchLikely c t).lo = s.lo := rfl
@[simp] theorem branchLikely_pc (c : Bool) (t : VAddr) (s : State) :
    (s.branchLikely c t).pc = if c then s.pc else s.nextPC := rfl
@[simp] theorem branchLikely_nextPC (c : Bool) (t : VAddr) (s : State) :
    (s.branchLikely c t).nextPC = if c then t else s.nextPC + 4#64 := rfl
@[simp] theorem branchLikely_oldPC (c : Bool) (t : VAddr) (s : State) : (s.branchLikely c t).oldPC = s.oldPC := rfl
@[simp] theorem branchLikely_delaySlot (c : Bool) (t : VAddr) (s : State) :
    (s.branchLikely c t).delaySlot = if c then true else s.delaySlot := rfl
@[simp] theorem branchLikely_curDS (c : Bool) (t : VAddr) (s : State) : (s.branchLikely c t).curDS = s.curDS := rfl
@[simp] theorem branchLikely_llBit (c : Bool) (t : VAddr) (s : State) : (s.branchLikely c t).llBit = s.llBit := rfl
@[simp] theorem branchLikely_tlbError (c : Bool) (t : VAddr) (s : State) :
    (s.branchLikely c t).tlbError = s.tlbError := rfl
@[simp] theorem branchLikely_cop0 (c : Bool) (t : VAddr) (s : State) : (s.branchLikely c t).cop0 = s.cop0 := rfl
@[simp] theorem branchLikely_tlb (c : Bool) (t : VAddr) (s : State) : (s.branchLikely c t).tlb = s.tlb := rfl
@[simp] theorem branchLikely_mem (c : Bool) (t : VAddr) (s : State) : (s.branchLikely c t).mem = s.mem := rfl
@[simp] theorem branchLikely_params (c : Bool) (t : VAddr) (s : State) : (s.branchLikely c t).params = s.params := rfl
@[simp] theorem branchLikely_schedule (c : Bool) (t : VAddr) (s : State) :
    (s.branchLikely c t).schedule = s.schedule := rfl
@[simp] theorem branchLikely_ports (c : Bool) (t : VAddr) (s : State) : (s.branchLikely c t).ports = s.ports := rfl
@[simp] theorem branchLikely_draws (c : Bool) (t : VAddr) (s : State) : (s.branchLikely c t).draws = s.draws := rfl

-- translate
@[simp] theorem translate_gpr (k : Access) (va : VAddr) (s : State) : (s.translate k va).2.gpr = s.gpr := rfl
@[simp] theorem translate_hi (k : Access) (va : VAddr) (s : State) : (s.translate k va).2.hi = s.hi := rfl
@[simp] theorem translate_lo (k : Access) (va : VAddr) (s : State) : (s.translate k va).2.lo = s.lo := rfl
@[simp] theorem translate_pc (k : Access) (va : VAddr) (s : State) : (s.translate k va).2.pc = s.pc := rfl
@[simp] theorem translate_nextPC (k : Access) (va : VAddr) (s : State) : (s.translate k va).2.nextPC = s.nextPC := rfl
@[simp] theorem translate_oldPC (k : Access) (va : VAddr) (s : State) : (s.translate k va).2.oldPC = s.oldPC := rfl
@[simp] theorem translate_delaySlot (k : Access) (va : VAddr) (s : State) :
    (s.translate k va).2.delaySlot = s.delaySlot := rfl
@[simp] theorem translate_curDS (k : Access) (va : VAddr) (s : State) : (s.translate k va).2.curDS = s.curDS := rfl
@[simp] theorem translate_llBit (k : Access) (va : VAddr) (s : State) : (s.translate k va).2.llBit = s.llBit := rfl
@[simp] theorem translate_tlbError (k : Access) (va : VAddr) (s : State) :
    (s.translate k va).2.tlbError = tlbErrorAfter (xlate k va s) s.tlbError := rfl
@[simp] theorem translate_cop0 (k : Access) (va : VAddr) (s : State) : (s.translate k va).2.cop0 = s.cop0 := rfl
@[simp] theorem translate_tlb (k : Access) (va : VAddr) (s : State) : (s.translate k va).2.tlb = s.tlb := rfl
@[simp] theorem translate_mem (k : Access) (va : VAddr) (s : State) : (s.translate k va).2.mem = s.mem := rfl
@[simp] theorem translate_params (k : Access) (va : VAddr) (s : State) : (s.translate k va).2.params = s.params := rfl
@[simp] theorem translate_schedule (k : Access) (va : VAddr) (s : State) :
    (s.translate k va).2.schedule = s.schedule := rfl
@[simp] theorem translate_ports (k : Access) (va : VAddr) (s : State) : (s.translate k va).2.ports = s.ports := rfl
@[simp] theorem translate_draws (k : Access) (va : VAddr) (s : State) : (s.translate k va).2.draws = s.draws := rfl

-- memRead
@[simp] theorem memRead_gpr (pa : PAddr) (w : Width) (s : State) : (s.memRead pa w).2.gpr = s.gpr := rfl
@[simp] theorem memRead_hi (pa : PAddr) (w : Width) (s : State) : (s.memRead pa w).2.hi = s.hi := rfl
@[simp] theorem memRead_lo (pa : PAddr) (w : Width) (s : State) : (s.memRead pa w).2.lo = s.lo := rfl
@[simp] theorem memRead_pc (pa : PAddr) (w : Width) (s : State) : (s.memRead pa w).2.pc = s.pc := rfl
@[simp] theorem memRead_nextPC (pa : PAddr) (w : Width) (s : State) : (s.memRead pa w).2.nextPC = s.nextPC := rfl
@[simp] theorem memRead_oldPC (pa : PAddr) (w : Width) (s : State) : (s.memRead pa w).2.oldPC = s.oldPC := rfl
@[simp] theorem memRead_delaySlot (pa : PAddr) (w : Width) (s : State) :
    (s.memRead pa w).2.delaySlot = s.delaySlot := rfl
@[simp] theorem memRead_curDS (pa : PAddr) (w : Width) (s : State) : (s.memRead pa w).2.curDS = s.curDS := rfl
@[simp] theorem memRead_llBit (pa : PAddr) (w : Width) (s : State) : (s.memRead pa w).2.llBit = s.llBit := rfl
@[simp] theorem memRead_tlbError (pa : PAddr) (w : Width) (s : State) : (s.memRead pa w).2.tlbError = s.tlbError := rfl
@[simp] theorem memRead_cop0 (pa : PAddr) (w : Width) (s : State) : (s.memRead pa w).2.cop0 = s.cop0 := rfl
@[simp] theorem memRead_tlb (pa : PAddr) (w : Width) (s : State) : (s.memRead pa w).2.tlb = s.tlb := rfl
@[simp] theorem memRead_mem (pa : PAddr) (w : Width) (s : State) : (s.memRead pa w).2.mem = s.mem := rfl
@[simp] theorem memRead_params (pa : PAddr) (w : Width) (s : State) : (s.memRead pa w).2.params = s.params := rfl
@[simp] theorem memRead_schedule (pa : PAddr) (w : Width) (s : State) : (s.memRead pa w).2.schedule = s.schedule := rfl
@[simp] theorem memRead_ports (pa : PAddr) (w : Width) (s : State) :
    (s.memRead pa w).2.ports = s.portsAfterRead pa w := rfl
@[simp] theorem memRead_draws (pa : PAddr) (w : Width) (s : State) : (s.memRead pa w).2.draws = s.draws := rfl

-- memWrite
@[simp] theorem memWrite_gpr (pa : PAddr) (w : Width) (v : DWord) (s : State) : (s.memWrite pa w v).gpr = s.gpr := rfl
@[simp] theorem memWrite_hi (pa : PAddr) (w : Width) (v : DWord) (s : State) : (s.memWrite pa w v).hi = s.hi := rfl
@[simp] theorem memWrite_lo (pa : PAddr) (w : Width) (v : DWord) (s : State) : (s.memWrite pa w v).lo = s.lo := rfl
@[simp] theorem memWrite_pc (pa : PAddr) (w : Width) (v : DWord) (s : State) : (s.memWrite pa w v).pc = s.pc := rfl
@[simp] theorem memWrite_nextPC (pa : PAddr) (w : Width) (v : DWord) (s : State) :
    (s.memWrite pa w v).nextPC = s.nextPC := rfl
@[simp] theorem memWrite_oldPC (pa : PAddr) (w : Width) (v : DWord) (s : State) :
    (s.memWrite pa w v).oldPC = s.oldPC := rfl
@[simp] theorem memWrite_delaySlot (pa : PAddr) (w : Width) (v : DWord) (s : State) :
    (s.memWrite pa w v).delaySlot = s.delaySlot := rfl
@[simp] theorem memWrite_curDS (pa : PAddr) (w : Width) (v : DWord) (s : State) :
    (s.memWrite pa w v).curDS = s.curDS := rfl
@[simp] theorem memWrite_llBit (pa : PAddr) (w : Width) (v : DWord) (s : State) :
    (s.memWrite pa w v).llBit = s.llBit := rfl
@[simp] theorem memWrite_tlbError (pa : PAddr) (w : Width) (v : DWord) (s : State) :
    (s.memWrite pa w v).tlbError = s.tlbError := rfl
@[simp] theorem memWrite_cop0 (pa : PAddr) (w : Width) (v : DWord) (s : State) :
    (s.memWrite pa w v).cop0 = s.cop0 := rfl
@[simp] theorem memWrite_tlb (pa : PAddr) (w : Width) (v : DWord) (s : State) : (s.memWrite pa w v).tlb = s.tlb := rfl
@[simp] theorem memWrite_mem (pa : PAddr) (w : Width) (v : DWord) (s : State) :
    (s.memWrite pa w v).mem = s.memAfterWrite pa w v := rfl
@[simp] theorem memWrite_params (pa : PAddr) (w : Width) (v : DWord) (s : State) :
    (s.memWrite pa w v).params = s.params := rfl
@[simp] theorem memWrite_schedule (pa : PAddr) (w : Width) (v : DWord) (s : State) :
    (s.memWrite pa w v).schedule = s.schedule := rfl
@[simp] theorem memWrite_ports (pa : PAddr) (w : Width) (v : DWord) (s : State) :
    (s.memWrite pa w v).ports = s.portsAfterWrite pa w v := rfl
@[simp] theorem memWrite_draws (pa : PAddr) (w : Width) (v : DWord) (s : State) :
    (s.memWrite pa w v).draws = s.draws := rfl

-- openReservation
@[simp] theorem openReservation_gpr (pa : PAddr) (s : State) : (s.openReservation pa).gpr = s.gpr := rfl
@[simp] theorem openReservation_hi (pa : PAddr) (s : State) : (s.openReservation pa).hi = s.hi := rfl
@[simp] theorem openReservation_lo (pa : PAddr) (s : State) : (s.openReservation pa).lo = s.lo := rfl
@[simp] theorem openReservation_pc (pa : PAddr) (s : State) : (s.openReservation pa).pc = s.pc := rfl
@[simp] theorem openReservation_nextPC (pa : PAddr) (s : State) : (s.openReservation pa).nextPC = s.nextPC := rfl
@[simp] theorem openReservation_oldPC (pa : PAddr) (s : State) : (s.openReservation pa).oldPC = s.oldPC := rfl
@[simp] theorem openReservation_delaySlot (pa : PAddr) (s : State) :
    (s.openReservation pa).delaySlot = s.delaySlot := rfl
@[simp] theorem openReservation_curDS (pa : PAddr) (s : State) : (s.openReservation pa).curDS = s.curDS := rfl
@[simp] theorem openReservation_llBit (pa : PAddr) (s : State) : (s.openReservation pa).llBit = true := rfl
@[simp] theorem openReservation_tlbError (pa : PAddr) (s : State) : (s.openReservation pa).tlbError = s.tlbError := rfl
@[simp] theorem openReservation_cop0 (pa : PAddr) (s : State) :
    (s.openReservation pa).cop0 = { s.cop0 with llAddr := pa >>> 4 } := rfl
@[simp] theorem openReservation_tlb (pa : PAddr) (s : State) : (s.openReservation pa).tlb = s.tlb := rfl
@[simp] theorem openReservation_mem (pa : PAddr) (s : State) : (s.openReservation pa).mem = s.mem := rfl
@[simp] theorem openReservation_params (pa : PAddr) (s : State) : (s.openReservation pa).params = s.params := rfl
@[simp] theorem openReservation_schedule (pa : PAddr) (s : State) : (s.openReservation pa).schedule = s.schedule := rfl
@[simp] theorem openReservation_ports (pa : PAddr) (s : State) : (s.openReservation pa).ports = s.ports := rfl
@[simp] theorem openReservation_draws (pa : PAddr) (s : State) : (s.openReservation pa).draws = s.draws := rfl

-- closeReservation
@[simp] theorem closeReservation_gpr (s : State) : (s.closeReservation).gpr = s.gpr := rfl
@[simp] theorem closeReservation_hi (s : State) : (s.closeReservation).hi = s.hi := rfl
@[simp] theorem closeReservation_lo (s : State) : (s.closeReservation).lo = s.lo := rfl
@[simp] theorem closeReservation_pc (s : State) : (s.closeReservation).pc = s.pc := rfl
@[simp] theorem closeReservation_nextPC (s : State) : (s.closeReservation).nextPC = s.nextPC := rfl
@[simp] theorem closeReservation_oldPC (s : State) : (s.closeReservation).oldPC = s.oldPC := rfl
@[simp] theorem closeReservation_delaySlot (s : State) : (s.closeReservation).delaySlot = s.delaySlot := rfl
@[simp] theorem closeReservation_curDS (s : State) : (s.closeReservation).curDS = s.curDS := rfl
@[simp] theorem closeReservation_llBit (s : State) : (s.closeReservation).llBit = false := rfl
@[simp] theorem closeReservation_tlbError (s : State) : (s.closeReservation).tlbError = s.tlbError := rfl
@[simp] theorem closeReservation_cop0 (s : State) : (s.closeReservation).cop0 = s.cop0 := rfl
@[simp] theorem closeReservation_tlb (s : State) : (s.closeReservation).tlb = s.tlb := rfl
@[simp] theorem closeReservation_mem (s : State) : (s.closeReservation).mem = s.mem := rfl
@[simp] theorem closeReservation_params (s : State) : (s.closeReservation).params = s.params := rfl
@[simp] theorem closeReservation_schedule (s : State) : (s.closeReservation).schedule = s.schedule := rfl
@[simp] theorem closeReservation_ports (s : State) : (s.closeReservation).ports = s.ports := rfl
@[simp] theorem closeReservation_draws (s : State) : (s.closeReservation).draws = s.draws := rfl

-- afterCop0Read
@[simp] theorem afterCop0Read_gpr (n : RegIdx) (s : State) : (s.afterCop0Read n).gpr = s.gpr := rfl
@[simp] theorem afterCop0Read_hi (n : RegIdx) (s : State) : (s.afterCop0Read n).hi = s.hi := rfl
@[simp] theorem afterCop0Read_lo (n : RegIdx) (s : State) : (s.afterCop0Read n).lo = s.lo := rfl
@[simp] theorem afterCop0Read_pc (n : RegIdx) (s : State) : (s.afterCop0Read n).pc = s.pc := rfl
@[simp] theorem afterCop0Read_nextPC (n : RegIdx) (s : State) : (s.afterCop0Read n).nextPC = s.nextPC := rfl
@[simp] theorem afterCop0Read_oldPC (n : RegIdx) (s : State) : (s.afterCop0Read n).oldPC = s.oldPC := rfl
@[simp] theorem afterCop0Read_delaySlot (n : RegIdx) (s : State) : (s.afterCop0Read n).delaySlot = s.delaySlot := rfl
@[simp] theorem afterCop0Read_curDS (n : RegIdx) (s : State) : (s.afterCop0Read n).curDS = s.curDS := rfl
@[simp] theorem afterCop0Read_llBit (n : RegIdx) (s : State) : (s.afterCop0Read n).llBit = s.llBit := rfl
@[simp] theorem afterCop0Read_tlbError (n : RegIdx) (s : State) : (s.afterCop0Read n).tlbError = s.tlbError := rfl
@[simp] theorem afterCop0Read_cop0 (n : RegIdx) (s : State) : (s.afterCop0Read n).cop0 = s.cop0 := rfl
@[simp] theorem afterCop0Read_tlb (n : RegIdx) (s : State) : (s.afterCop0Read n).tlb = s.tlb := rfl
@[simp] theorem afterCop0Read_mem (n : RegIdx) (s : State) : (s.afterCop0Read n).mem = s.mem := rfl
@[simp] theorem afterCop0Read_params (n : RegIdx) (s : State) : (s.afterCop0Read n).params = s.params := rfl
@[simp] theorem afterCop0Read_schedule (n : RegIdx) (s : State) : (s.afterCop0Read n).schedule = s.schedule := rfl
@[simp] theorem afterCop0Read_ports (n : RegIdx) (s : State) : (s.afterCop0Read n).ports = s.ports := rfl
@[simp] theorem afterCop0Read_draws (n : RegIdx) (s : State) :
    (s.afterCop0Read n).draws = drawsAfterRead n s.draws := rfl

-- tlbRead
@[simp] theorem tlbRead_gpr (i : Fin 32) (s : State) : (s.tlbRead i).gpr = s.gpr := rfl
@[simp] theorem tlbRead_hi (i : Fin 32) (s : State) : (s.tlbRead i).hi = s.hi := rfl
@[simp] theorem tlbRead_lo (i : Fin 32) (s : State) : (s.tlbRead i).lo = s.lo := rfl
@[simp] theorem tlbRead_pc (i : Fin 32) (s : State) : (s.tlbRead i).pc = s.pc := rfl
@[simp] theorem tlbRead_nextPC (i : Fin 32) (s : State) : (s.tlbRead i).nextPC = s.nextPC := rfl
@[simp] theorem tlbRead_oldPC (i : Fin 32) (s : State) : (s.tlbRead i).oldPC = s.oldPC := rfl
@[simp] theorem tlbRead_delaySlot (i : Fin 32) (s : State) : (s.tlbRead i).delaySlot = s.delaySlot := rfl
@[simp] theorem tlbRead_curDS (i : Fin 32) (s : State) : (s.tlbRead i).curDS = s.curDS := rfl
@[simp] theorem tlbRead_llBit (i : Fin 32) (s : State) : (s.tlbRead i).llBit = s.llBit := rfl
@[simp] theorem tlbRead_tlbError (i : Fin 32) (s : State) : (s.tlbRead i).tlbError = s.tlbError := rfl
@[simp] theorem tlbRead_cop0 (i : Fin 32) (s : State) : (s.tlbRead i).cop0 = s.cop0.stage (s.tlb[i.val]'i.isLt) := rfl
@[simp] theorem tlbRead_tlb (i : Fin 32) (s : State) : (s.tlbRead i).tlb = s.tlb := rfl
@[simp] theorem tlbRead_mem (i : Fin 32) (s : State) : (s.tlbRead i).mem = s.mem := rfl
@[simp] theorem tlbRead_params (i : Fin 32) (s : State) : (s.tlbRead i).params = s.params := rfl
@[simp] theorem tlbRead_schedule (i : Fin 32) (s : State) : (s.tlbRead i).schedule = s.schedule := rfl
@[simp] theorem tlbRead_ports (i : Fin 32) (s : State) : (s.tlbRead i).ports = s.ports := rfl
@[simp] theorem tlbRead_draws (i : Fin 32) (s : State) : (s.tlbRead i).draws = s.draws := rfl

-- tlbWrite
@[simp] theorem tlbWrite_gpr (i : Fin 32) (s : State) : (s.tlbWrite i).gpr = s.gpr := rfl
@[simp] theorem tlbWrite_hi (i : Fin 32) (s : State) : (s.tlbWrite i).hi = s.hi := rfl
@[simp] theorem tlbWrite_lo (i : Fin 32) (s : State) : (s.tlbWrite i).lo = s.lo := rfl
@[simp] theorem tlbWrite_pc (i : Fin 32) (s : State) : (s.tlbWrite i).pc = s.pc := rfl
@[simp] theorem tlbWrite_nextPC (i : Fin 32) (s : State) : (s.tlbWrite i).nextPC = s.nextPC := rfl
@[simp] theorem tlbWrite_oldPC (i : Fin 32) (s : State) : (s.tlbWrite i).oldPC = s.oldPC := rfl
@[simp] theorem tlbWrite_delaySlot (i : Fin 32) (s : State) : (s.tlbWrite i).delaySlot = s.delaySlot := rfl
@[simp] theorem tlbWrite_curDS (i : Fin 32) (s : State) : (s.tlbWrite i).curDS = s.curDS := rfl
@[simp] theorem tlbWrite_llBit (i : Fin 32) (s : State) : (s.tlbWrite i).llBit = s.llBit := rfl
@[simp] theorem tlbWrite_tlbError (i : Fin 32) (s : State) : (s.tlbWrite i).tlbError = s.tlbError := rfl
@[simp] theorem tlbWrite_cop0 (i : Fin 32) (s : State) : (s.tlbWrite i).cop0 = s.cop0 := rfl
@[simp] theorem tlbWrite_tlb (i : Fin 32) (s : State) :
    (s.tlbWrite i).tlb = s.tlb.set i.val s.cop0.stagedEntry i.isLt := rfl
@[simp] theorem tlbWrite_mem (i : Fin 32) (s : State) : (s.tlbWrite i).mem = s.mem := rfl
@[simp] theorem tlbWrite_params (i : Fin 32) (s : State) : (s.tlbWrite i).params = s.params := rfl
@[simp] theorem tlbWrite_schedule (i : Fin 32) (s : State) : (s.tlbWrite i).schedule = s.schedule := rfl
@[simp] theorem tlbWrite_ports (i : Fin 32) (s : State) : (s.tlbWrite i).ports = s.ports := rfl
@[simp] theorem tlbWrite_draws (i : Fin 32) (s : State) : (s.tlbWrite i).draws = s.draws := rfl

-- tlbProbe
@[simp] theorem tlbProbe_gpr (s : State) : (s.tlbProbe).gpr = s.gpr := rfl
@[simp] theorem tlbProbe_hi (s : State) : (s.tlbProbe).hi = s.hi := rfl
@[simp] theorem tlbProbe_lo (s : State) : (s.tlbProbe).lo = s.lo := rfl
@[simp] theorem tlbProbe_pc (s : State) : (s.tlbProbe).pc = s.pc := rfl
@[simp] theorem tlbProbe_nextPC (s : State) : (s.tlbProbe).nextPC = s.nextPC := rfl
@[simp] theorem tlbProbe_oldPC (s : State) : (s.tlbProbe).oldPC = s.oldPC := rfl
@[simp] theorem tlbProbe_delaySlot (s : State) : (s.tlbProbe).delaySlot = s.delaySlot := rfl
@[simp] theorem tlbProbe_curDS (s : State) : (s.tlbProbe).curDS = s.curDS := rfl
@[simp] theorem tlbProbe_llBit (s : State) : (s.tlbProbe).llBit = s.llBit := rfl
@[simp] theorem tlbProbe_tlbError (s : State) : (s.tlbProbe).tlbError = s.tlbError := rfl
@[simp] theorem tlbProbe_cop0 (s : State) :
    (s.tlbProbe).cop0 = { s.cop0 with index := probeIndex s.tlb s.cop0.entryHi } := rfl
@[simp] theorem tlbProbe_tlb (s : State) : (s.tlbProbe).tlb = s.tlb := rfl
@[simp] theorem tlbProbe_mem (s : State) : (s.tlbProbe).mem = s.mem := rfl
@[simp] theorem tlbProbe_params (s : State) : (s.tlbProbe).params = s.params := rfl
@[simp] theorem tlbProbe_schedule (s : State) : (s.tlbProbe).schedule = s.schedule := rfl
@[simp] theorem tlbProbe_ports (s : State) : (s.tlbProbe).ports = s.ports := rfl
@[simp] theorem tlbProbe_draws (s : State) : (s.tlbProbe).draws = s.draws := rfl

-- applyEvent
@[simp] theorem applyEvent_gpr (e : EnvEvent) (s : State) : (s.applyEvent e).gpr = s.gpr := rfl
@[simp] theorem applyEvent_hi (e : EnvEvent) (s : State) : (s.applyEvent e).hi = s.hi := rfl
@[simp] theorem applyEvent_lo (e : EnvEvent) (s : State) : (s.applyEvent e).lo = s.lo := rfl
@[simp] theorem applyEvent_pc (e : EnvEvent) (s : State) : (s.applyEvent e).pc = s.pc := rfl
@[simp] theorem applyEvent_nextPC (e : EnvEvent) (s : State) : (s.applyEvent e).nextPC = s.nextPC := rfl
@[simp] theorem applyEvent_oldPC (e : EnvEvent) (s : State) : (s.applyEvent e).oldPC = s.oldPC := rfl
@[simp] theorem applyEvent_delaySlot (e : EnvEvent) (s : State) : (s.applyEvent e).delaySlot = s.delaySlot := rfl
@[simp] theorem applyEvent_curDS (e : EnvEvent) (s : State) : (s.applyEvent e).curDS = s.curDS := rfl
@[simp] theorem applyEvent_llBit (e : EnvEvent) (s : State) : (s.applyEvent e).llBit = s.llBit := rfl
@[simp] theorem applyEvent_tlbError (e : EnvEvent) (s : State) : (s.applyEvent e).tlbError = s.tlbError := rfl
@[simp] theorem applyEvent_cop0 (e : EnvEvent) (s : State) : (s.applyEvent e).cop0 = s.cop0.event e := rfl
@[simp] theorem applyEvent_tlb (e : EnvEvent) (s : State) : (s.applyEvent e).tlb = s.tlb := rfl
@[simp] theorem applyEvent_mem (e : EnvEvent) (s : State) : (s.applyEvent e).mem = s.memAfterEvent e := rfl
@[simp] theorem applyEvent_params (e : EnvEvent) (s : State) : (s.applyEvent e).params = s.params := rfl
@[simp] theorem applyEvent_schedule (e : EnvEvent) (s : State) : (s.applyEvent e).schedule = s.schedule := rfl
@[simp] theorem applyEvent_ports (e : EnvEvent) (s : State) : (s.applyEvent e).ports = s.ports := rfl
@[simp] theorem applyEvent_draws (e : EnvEvent) (s : State) : (s.applyEvent e).draws = s.draws := rfl

-- latch
@[simp] theorem latch_gpr (s : State) : (s.latch).gpr = s.gpr := rfl
@[simp] theorem latch_hi (s : State) : (s.latch).hi = s.hi := rfl
@[simp] theorem latch_lo (s : State) : (s.latch).lo = s.lo := rfl
@[simp] theorem latch_pc (s : State) : (s.latch).pc = s.pc := rfl
@[simp] theorem latch_nextPC (s : State) : (s.latch).nextPC = s.nextPC := rfl
@[simp] theorem latch_oldPC (s : State) : (s.latch).oldPC = s.oldPC := rfl
@[simp] theorem latch_delaySlot (s : State) : (s.latch).delaySlot = false := rfl
@[simp] theorem latch_curDS (s : State) : (s.latch).curDS = s.delaySlot := rfl
@[simp] theorem latch_llBit (s : State) : (s.latch).llBit = s.llBit := rfl
@[simp] theorem latch_tlbError (s : State) : (s.latch).tlbError = s.tlbError := rfl
@[simp] theorem latch_cop0 (s : State) : (s.latch).cop0 = s.cop0 := rfl
@[simp] theorem latch_tlb (s : State) : (s.latch).tlb = s.tlb := rfl
@[simp] theorem latch_mem (s : State) : (s.latch).mem = s.mem := rfl
@[simp] theorem latch_params (s : State) : (s.latch).params = s.params := rfl
@[simp] theorem latch_schedule (s : State) : (s.latch).schedule = s.schedule := rfl
@[simp] theorem latch_ports (s : State) : (s.latch).ports = s.ports := rfl
@[simp] theorem latch_draws (s : State) : (s.latch).draws = s.draws := rfl

-- takeInterrupt
@[simp] theorem takeInterrupt_gpr (s : State) : (s.takeInterrupt).gpr = s.gpr := rfl
@[simp] theorem takeInterrupt_hi (s : State) : (s.takeInterrupt).hi = s.hi := rfl
@[simp] theorem takeInterrupt_lo (s : State) : (s.takeInterrupt).lo = s.lo := rfl
@[simp] theorem takeInterrupt_pc (s : State) : (s.takeInterrupt).pc = s.handler .interrupt := rfl
@[simp] theorem takeInterrupt_nextPC (s : State) : (s.takeInterrupt).nextPC = s.handler .interrupt + 4#64 := rfl
@[simp] theorem takeInterrupt_oldPC (s : State) : (s.takeInterrupt).oldPC = s.oldPC := rfl
@[simp] theorem takeInterrupt_delaySlot (s : State) : (s.takeInterrupt).delaySlot = s.delaySlot := rfl
@[simp] theorem takeInterrupt_curDS (s : State) : (s.takeInterrupt).curDS = s.curDS := rfl
@[simp] theorem takeInterrupt_llBit (s : State) : (s.takeInterrupt).llBit = s.llBit := rfl
@[simp] theorem takeInterrupt_tlbError (s : State) : (s.takeInterrupt).tlbError = s.tlbError := rfl
@[simp] theorem takeInterrupt_cop0 (s : State) : (s.takeInterrupt).cop0 = s.cop0.raise .interrupt 0 s.pc s.curDS := rfl
@[simp] theorem takeInterrupt_tlb (s : State) : (s.takeInterrupt).tlb = s.tlb := rfl
@[simp] theorem takeInterrupt_mem (s : State) : (s.takeInterrupt).mem = s.mem := rfl
@[simp] theorem takeInterrupt_params (s : State) : (s.takeInterrupt).params = s.params := rfl
@[simp] theorem takeInterrupt_schedule (s : State) : (s.takeInterrupt).schedule = s.schedule := rfl
@[simp] theorem takeInterrupt_ports (s : State) : (s.takeInterrupt).ports = s.ports := rfl
@[simp] theorem takeInterrupt_draws (s : State) : (s.takeInterrupt).draws = s.draws := rfl

-- call
@[simp] theorem call_gpr (c : Config.PortCall) (s : State) : (s.call c).gpr = s.gpr := rfl
@[simp] theorem call_hi (c : Config.PortCall) (s : State) : (s.call c).hi = s.hi := rfl
@[simp] theorem call_lo (c : Config.PortCall) (s : State) : (s.call c).lo = s.lo := rfl
@[simp] theorem call_pc (c : Config.PortCall) (s : State) : (s.call c).pc = s.pc := rfl
@[simp] theorem call_nextPC (c : Config.PortCall) (s : State) : (s.call c).nextPC = s.nextPC := rfl
@[simp] theorem call_oldPC (c : Config.PortCall) (s : State) : (s.call c).oldPC = s.oldPC := rfl
@[simp] theorem call_delaySlot (c : Config.PortCall) (s : State) : (s.call c).delaySlot = s.delaySlot := rfl
@[simp] theorem call_curDS (c : Config.PortCall) (s : State) : (s.call c).curDS = s.curDS := rfl
@[simp] theorem call_llBit (c : Config.PortCall) (s : State) : (s.call c).llBit = s.llBit := rfl
@[simp] theorem call_tlbError (c : Config.PortCall) (s : State) : (s.call c).tlbError = s.tlbError := rfl
@[simp] theorem call_cop0 (c : Config.PortCall) (s : State) : (s.call c).cop0 = s.cop0 := rfl
@[simp] theorem call_tlb (c : Config.PortCall) (s : State) : (s.call c).tlb = s.tlb := rfl
@[simp] theorem call_mem (c : Config.PortCall) (s : State) : (s.call c).mem = s.mem := rfl
@[simp] theorem call_params (c : Config.PortCall) (s : State) : (s.call c).params = s.params := rfl
@[simp] theorem call_schedule (c : Config.PortCall) (s : State) : (s.call c).schedule = s.schedule := rfl
@[simp] theorem call_ports (c : Config.PortCall) (s : State) : (s.call c).ports = c :: s.ports := rfl
@[simp] theorem call_draws (c : Config.PortCall) (s : State) : (s.call c).draws = s.draws := rfl

-- resetFrom
@[simp] theorem resetFrom_gpr (s : State) : (s.resetFrom).gpr = s.gpr.set 0 0 := rfl
@[simp] theorem resetFrom_hi (s : State) : (s.resetFrom).hi = s.hi := rfl
@[simp] theorem resetFrom_lo (s : State) : (s.resetFrom).lo = s.lo := rfl
@[simp] theorem resetFrom_pc (s : State) : (s.resetFrom).pc = 0xFFFFFFFFBFC00000#64 := rfl
@[simp] theorem resetFrom_nextPC (s : State) : (s.resetFrom).nextPC = 0xFFFFFFFFBFC00004#64 := rfl
@[simp] theorem resetFrom_oldPC (s : State) : (s.resetFrom).oldPC = s.oldPC := rfl
@[simp] theorem resetFrom_delaySlot (s : State) : (s.resetFrom).delaySlot = false := rfl
@[simp] theorem resetFrom_curDS (s : State) : (s.resetFrom).curDS = false := rfl
@[simp] theorem resetFrom_llBit (s : State) : (s.resetFrom).llBit = s.llBit := rfl
@[simp] theorem resetFrom_tlbError (s : State) : (s.resetFrom).tlbError = none := rfl
@[simp] theorem resetFrom_cop0 (s : State) : (s.resetFrom).cop0 = s.cop0.resetFrom := rfl
@[simp] theorem resetFrom_tlb (s : State) :
    (s.resetFrom).tlb = s.tlb.map fun e => { e with initialized := false } := rfl
@[simp] theorem resetFrom_mem (s : State) : (s.resetFrom).mem = s.mem := rfl
@[simp] theorem resetFrom_params (s : State) : (s.resetFrom).params = s.params := rfl
@[simp] theorem resetFrom_schedule (s : State) : (s.resetFrom).schedule = s.schedule := rfl
@[simp] theorem resetFrom_ports (s : State) : (s.resetFrom).ports = s.ports := rfl
@[simp] theorem resetFrom_draws (s : State) : (s.resetFrom).draws = s.draws := rfl

end Sys2Proof.Laws
end

