-- ==== Sys2Proof/Laws/Memory.lean ====
section
/-! SUPPORT. The laws of the byte memory: a read after a write gives the byte written, a write leaves every other byte
alone, every operation keeps the canonical form, and equal reads of canonical memories mean equal lists. -/

namespace Sys2Proof.Laws

open Sys2Proof.Machine

theorem lookup_remove_self (m : Memory) (a : Nat) : (m.remove a).lookup a = unlistedByte := by
  induction m with
  | nil => rfl
  | cons p m ih =>
    obtain ⟨x, c⟩ := p
    by_cases h : x = a
    · simpa [Memory.remove, h] using ih
    · simp only [Memory.remove] at ih ⊢
      simp [h, Memory.lookup, ih]

theorem lookup_remove_other (m : Memory) {a b : Nat} (h : b ≠ a) : (m.remove a).lookup b = m.lookup b := by
  induction m with
  | nil => rfl
  | cons p m ih =>
    obtain ⟨x, c⟩ := p
    simp only [Memory.remove] at ih ⊢
    by_cases hx : x = a
    · have hb : x ≠ b := fun e => h (e.symm.trans hx)
      rw [List.filter_cons_of_neg (by simp [hx]), ih]
      simp [Memory.lookup, hb]
    · rw [List.filter_cons_of_pos (by simp [hx])]
      simp [Memory.lookup, ih]

theorem lookup_place_self (m : Memory) (a : Nat) (b : Byte) (h : ∀ p ∈ m, p.1 ≠ a) :
    (m.place a b).lookup a = b := by
  induction m with
  | nil => simp [Memory.place, Memory.lookup]
  | cons p m ih =>
    obtain ⟨x, c⟩ := p
    have hx : x ≠ a := h (x, c) (by simp)
    by_cases hlt : a < x
    · simp [Memory.place, hlt, Memory.lookup]
    · simp only [Memory.place, if_neg hlt, Memory.lookup, if_neg hx]
      exact ih fun q hq => h q (List.mem_cons_of_mem _ hq)

theorem lookup_place_other (m : Memory) {a b : Nat} (v : Byte) (h : b ≠ a) :
    (m.place a v).lookup b = m.lookup b := by
  induction m with
  | nil => simp [Memory.place, Memory.lookup, Ne.symm h]
  | cons p m ih =>
    obtain ⟨x, c⟩ := p
    by_cases hlt : a < x
    · simp [Memory.place, hlt, Memory.lookup, Ne.symm h]
    · simp [Memory.place, hlt, Memory.lookup, ih]

theorem mem_remove_ne (m : Memory) (a : Nat) : ∀ p ∈ m.remove a, p.1 ≠ a := by
  intro p hp
  have := (List.mem_filter.mp hp).2
  simpa using this

/-- A read after a write to the same address gives the byte written. -/
theorem readByte_writeByte_self (m : Memory) (a : PAddr) (b : Byte) : (m.writeByte a b).readByte a = b := by
  unfold Memory.writeByte Memory.readByte
  split
  · next h => rw [lookup_remove_self, h]
  · exact lookup_place_self _ _ _ (mem_remove_ne m a.toNat)

/-- A write leaves every other address alone. -/
theorem readByte_writeByte_other (m : Memory) {a a' : PAddr} (b : Byte) (h : a' ≠ a) :
    (m.writeByte a b).readByte a' = m.readByte a' := by
  have hn : a'.toNat ≠ a.toNat := fun e => h (BitVec.eq_of_toNat_eq e)
  unfold Memory.writeByte Memory.readByte
  split
  · exact lookup_remove_other m hn
  · rw [lookup_place_other _ _ hn, lookup_remove_other m hn]

/-- What a byte write leaves at any address. -/
theorem readByte_writeByte (m : Memory) (a a' : PAddr) (b : Byte) :
    (m.writeByte a b).readByte a' = if a' = a then b else m.readByte a' := by
  split
  · next h => rw [h, readByte_writeByte_self]
  · next h => exact readByte_writeByte_other m b h

theorem wfFrom_mono {lo lo' : Nat} (h : lo' ≤ lo) {m : Memory} (hm : Memory.wfFrom lo m = true) :
    Memory.wfFrom lo' m = true := by
  cases m with
  | nil => rfl
  | cons p m =>
    obtain ⟨x, c⟩ := p
    simp only [Memory.wfFrom, Bool.and_eq_true, decide_eq_true_eq] at hm ⊢
    exact ⟨⟨⟨le_trans h hm.1.1.1, hm.1.1.2⟩, hm.1.2⟩, hm.2⟩

theorem wfFrom_remove {lo : Nat} {m : Memory} (a : Nat) (hm : Memory.wfFrom lo m = true) :
    Memory.wfFrom lo (m.remove a) = true := by
  induction m generalizing lo with
  | nil => rfl
  | cons p m ih =>
    obtain ⟨x, c⟩ := p
    simp only [Memory.wfFrom, Bool.and_eq_true, decide_eq_true_eq] at hm
    have hm' := ih hm.2
    simp only [Memory.remove] at hm' ⊢
    by_cases hx : x = a
    · rw [List.filter_cons_of_neg (by simp [hx])]
      exact wfFrom_mono (by omega) hm'
    · rw [List.filter_cons_of_pos (by simp [hx])]
      simp only [Memory.wfFrom, Bool.and_eq_true, decide_eq_true_eq]
      exact ⟨⟨⟨hm.1.1.1, hm.1.1.2⟩, hm.1.2⟩, hm'⟩

theorem wfFrom_place {lo : Nat} {m : Memory} {a : Nat} {b : Byte} (hm : Memory.wfFrom lo m = true) (hlo : lo ≤ a)
    (ha : a < 2 ^ 32) (hb : b ≠ unlistedByte) (hne : ∀ p ∈ m, p.1 ≠ a) : Memory.wfFrom lo (m.place a b) = true := by
  induction m generalizing lo with
  | nil =>
    simp only [Memory.place, Memory.wfFrom, Bool.and_eq_true, decide_eq_true_eq]
    exact ⟨⟨⟨hlo, ha⟩, hb⟩, trivial⟩
  | cons p m ih =>
    obtain ⟨x, c⟩ := p
    simp only [Memory.wfFrom, Bool.and_eq_true, decide_eq_true_eq] at hm
    have hx : x ≠ a := hne (x, c) (by simp)
    by_cases hlt : a < x
    · simp only [Memory.place, if_pos hlt, Memory.wfFrom, Bool.and_eq_true, decide_eq_true_eq]
      exact ⟨⟨⟨hlo, ha⟩, hb⟩, ⟨⟨⟨by omega, hm.1.1.2⟩, hm.1.2⟩, hm.2⟩⟩
    · simp only [Memory.place, if_neg hlt, Memory.wfFrom, Bool.and_eq_true, decide_eq_true_eq]
      exact ⟨⟨⟨hm.1.1.1, hm.1.1.2⟩, hm.1.2⟩,
        ih hm.2 (by omega) fun q hq => hne q (List.mem_cons_of_mem _ hq)⟩

/-- A byte write keeps the canonical form. -/
theorem wf_writeByte {m : Memory} (hm : m.wf = true) (a : PAddr) (b : Byte) : (m.writeByte a b).wf = true := by
  unfold Memory.writeByte
  split
  · exact wfFrom_remove _ hm
  · next h => exact wfFrom_place (wfFrom_remove _ hm) (Nat.zero_le _) a.isLt h (mem_remove_ne m _)

theorem wf_writeBytes {m : Memory} (hm : m.wf = true) (pa : PAddr) (w : Width) (v : DWord) (k : Nat) :
    (m.writeBytes pa w v k).wf = true := by
  induction k with
  | zero => exact hm
  | succ k ih => exact wf_writeByte ih _ _

/-- A datum write keeps the canonical form. -/
theorem wf_write {m : Memory} (hm : m.wf = true) (pa : PAddr) (w : Width) (v : DWord) : (m.write pa w v).wf = true :=
  wf_writeBytes hm pa w v _

/-- A port write keeps the canonical form. -/
theorem wf_memWrite {s : State} (h : s.mem.wf = true) (pa : PAddr) (w : Width) (v : DWord) :
    (s.memWrite pa w v).mem.wf = true := by
  simp only [memWrite_mem, State.memAfterWrite]
  split
  · exact wf_write h pa w v
  · exact h

/-- An event of the environment keeps the canonical form. -/
theorem wf_memAfterEvent {s : State} (h : s.mem.wf = true) (e : EnvEvent) : (s.memAfterEvent e).wf = true := by
  cases e with
  | busWrite pa b => exact wf_memWrite (s := s) h pa .byte _
  | irqSet n => exact h
  | irqClear n => exact h
  | timerTick => exact h

/-- Placing a word keeps the canonical form. -/
theorem wf_placeWord {m : Memory} (hm : m.wf = true) (pa : PAddr) (w : Word) : (m.placeWord pa w).wf = true :=
  wf_write hm pa .word _

/-- Reset's memory has the canonical form. -/
theorem wf_reset : State.reset.mem.wf = true := rfl

theorem wfFrom_cons {lo x : Nat} {c : Byte} {m : Memory} :
    Memory.wfFrom lo ((x, c) :: m) = true ↔
      ((lo ≤ x ∧ x < 2 ^ 32) ∧ c ≠ unlistedByte) ∧ Memory.wfFrom (x + 1) m = true := by
  simp only [Memory.wfFrom, Bool.and_eq_true, decide_eq_true_eq]

theorem lookup_head (x : Nat) (c : Byte) (m : Memory) : Memory.lookup ((x, c) :: m) x = c := by
  simp [Memory.lookup]

theorem lookup_lt {lo : Nat} {m : Memory} (hm : Memory.wfFrom lo m = true) {a : Nat} (ha : a < lo) :
    m.lookup a = unlistedByte := by
  induction m generalizing lo with
  | nil => rfl
  | cons p m ih =>
    obtain ⟨x, c⟩ := p
    simp only [Memory.wfFrom, Bool.and_eq_true, decide_eq_true_eq] at hm
    simp only [Memory.lookup, if_neg (show x ≠ a by omega)]
    exact ih hm.2 (by omega)

theorem lookup_ge {lo : Nat} {m : Memory} (hm : Memory.wfFrom lo m = true) {a : Nat} (ha : 2 ^ 32 ≤ a) :
    m.lookup a = unlistedByte := by
  induction m generalizing lo with
  | nil => rfl
  | cons p m ih =>
    obtain ⟨x, c⟩ := p
    simp only [Memory.wfFrom, Bool.and_eq_true, decide_eq_true_eq] at hm
    simp only [Memory.lookup, if_neg (show x ≠ a by omega)]
    exact ih hm.2

theorem eq_of_lookup {lo : Nat} {m n : Memory} (hm : Memory.wfFrom lo m = true) (hn : Memory.wfFrom lo n = true)
    (h : ∀ a, m.lookup a = n.lookup a) : m = n := by
  induction m generalizing lo n with
  | nil =>
    cases n with
    | nil => rfl
    | cons q n =>
      obtain ⟨y, d⟩ := q
      simp only [Memory.wfFrom, Bool.and_eq_true, decide_eq_true_eq] at hn
      exact absurd (by simpa [Memory.lookup] using (h y).symm) hn.1.2
  | cons p m ih =>
    obtain ⟨x, c⟩ := p
    simp only [Memory.wfFrom, Bool.and_eq_true, decide_eq_true_eq] at hm
    cases n with
    | nil => exact absurd (by simpa [Memory.lookup] using h x) hm.1.2
    | cons q n =>
      obtain ⟨y, d⟩ := q
      simp only [Memory.wfFrom, Bool.and_eq_true, decide_eq_true_eq] at hn
      have hxy : x = y := by
        by_contra hne
        rcases Nat.lt_or_gt_of_ne hne with hlt | hgt
        · have hx := h x
          rw [lookup_head, lookup_lt (lo := y) (wfFrom_cons.mpr ⟨⟨⟨le_rfl, hn.1.1.2⟩, hn.1.2⟩, hn.2⟩) hlt] at hx
          exact hm.1.2 hx
        · have hy := h y
          rw [lookup_head, lookup_lt (lo := x) (wfFrom_cons.mpr ⟨⟨⟨le_rfl, hm.1.1.2⟩, hm.1.2⟩, hm.2⟩) hgt] at hy
          exact hn.1.2 hy.symm
      subst hxy
      have hcd : c = d := by simpa [Memory.lookup] using h x
      subst hcd
      congr 1
      refine ih hm.2 hn.2 fun a => ?_
      by_cases ha : x = a
      · subst ha
        rw [lookup_lt hm.2 (by omega), lookup_lt hn.2 (by omega)]
      · simpa [Memory.lookup, ha] using h a

/-- Two canonical memories that read the same everywhere are the same list. -/
theorem memory_ext {m n : Memory} (hm : m.wf = true) (hn : n.wf = true) (h : ∀ a : PAddr, m.readByte a = n.readByte a) :
    m = n := by
  refine eq_of_lookup hm hn fun a => ?_
  by_cases ha : a < 2 ^ 32
  · have := h (BitVec.ofNat 32 a)
    rwa [Memory.readByte, Memory.readByte, BitVec.toNat_ofNat, Nat.mod_eq_of_lt ha] at this
  · rw [lookup_ge hm (by omega), lookup_ge hn (by omega)]

end Sys2Proof.Laws
end

