-- ==== Sys2Proof/Laws/Ops.lean ====
section
/-! SUPPORT. For each shared operation, once, everything it can do: registers, the exception entry, the address phase,
loads and stores, the COP0 gates. The provers cite these instead of unfolding. -/

namespace Sys2Proof.Laws

open Sys2Proof.Machine

-- Registers.

theorem writeGpr_zero (g : Vector DWord 32) (v : DWord) : writeGpr g 0 v = g := rfl

@[simp] theorem readReg_zero (s : State) : s.readReg 0 = 0 := rfl

/-- Register reads depend on the register file alone. -/
theorem readReg_congr {s t : State} (h : t.gpr = s.gpr) (r : RegIdx) : t.readReg r = s.readReg r := by
  simp only [State.readReg, h]

/-- What a register write leaves in any register. -/
theorem readReg_writeReg (r q : RegIdx) (v : DWord) (s : State) :
    (s.writeReg r v).readReg q = if q = r ∧ r ≠ 0#5 then v else s.readReg q := by
  simp only [State.readReg, writeReg_gpr, writeGpr]
  by_cases hr : r = 0#5
  · simp [hr]
  · by_cases hq : q = r
    · subst hq
      simp only [if_neg hr, Vector.getElem_set_self]
      simp [hr]
    · have hn : r.toNat ≠ q.toNat := fun e => hq (BitVec.eq_of_toNat_eq e.symm)
      simp only [if_neg hr]
      rw [Vector.getElem_set_ne _ _ hn]
      simp [hq]

theorem readReg_writeReg_self {r : RegIdx} (h : r ≠ 0#5) (v : DWord) (s : State) : (s.writeReg r v).readReg r = v := by
  rw [readReg_writeReg, if_pos ⟨rfl, h⟩]

theorem readReg_writeReg_other {r q : RegIdx} (h : q ≠ r) (v : DWord) (s : State) :
    (s.writeReg r v).readReg q = s.readReg q := by
  rw [readReg_writeReg, if_neg fun e => h e.1]

theorem writeReg_zero (v : DWord) (s : State) : s.writeReg 0 v = s := rfl

/-- The hard-wired register stays 0 in the file itself. -/
theorem writeGpr_keeps_zero {g : Vector DWord 32} (h : g[0] = 0) (r : RegIdx) (v : DWord) : (writeGpr g r v)[0] = 0 := by
  unfold writeGpr
  split
  · exact h
  · next hr =>
    have hn : r.toNat ≠ 0 := fun e => hr (BitVec.eq_of_toNat_eq e)
    rw [Vector.getElem_set_ne _ _ hn]
    exact h

-- Results.

theorem put_eq (dst : RegIdx) (v : DWord) (s : State) : s.put dst v = .next (s.writeReg dst v) := rfl

theorem putChecked_true (dst : RegIdx) (v : DWord) (s : State) :
    s.putChecked true dst v = .next (s.raise .overflow 0 s.oldPC s.curDS) := rfl

theorem putChecked_false (dst : RegIdx) (v : DWord) (s : State) :
    s.putChecked false dst v = .next (s.writeReg dst v) := rfl

theorem trapIf_true (s : State) : s.trapIf true = .next (s.raise .trap 0 s.oldPC s.curDS) := rfl

theorem trapIf_false (s : State) : s.trapIf false = .next s := rfl

-- The exception entry (R470).

theorem raise_exl {c : Cop0} (h : statusEXL c.status = true) (kind : ExcKind) (cop : BitVec 2) (pc : VAddr) (d : Bool) :
    c.raise kind cop pc d = { c with cause := causeWithCode kind.code cop c.cause } := by
  simp [Cop0.raise, h]

theorem raise_noexl {c : Cop0} (h : statusEXL c.status = false) (kind : ExcKind) (cop : BitVec 2) (pc : VAddr)
    (d : Bool) :
    c.raise kind cop pc d = { c with
      status := statusSetEXL c.status
      epc := if d then pc - 4#64 else pc
      cause := causeWithCode kind.code cop (causeWithBD d c.cause) } := by
  simp [Cop0.raise, h]

/-- After any entry EXL is set. -/
theorem raise_sets_exl (c : Cop0) (kind : ExcKind) (cop : BitVec 2) (pc : VAddr) (d : Bool) :
    statusEXL (c.raise kind cop pc d).status = true := by
  cases h : statusEXL c.status
  · rw [raise_noexl h]
    simp [statusEXL, statusSetEXL]
  · rw [raise_exl h]
    exact h

-- The address phase (R117, R320).

/-- A successful address phase: aligned where it must be, translated, nothing written. -/
theorem locate_ok {kind : Access} {w : Width} {ck : Bool} {va pc : VAddr} {s : State} {pa : PAddr}
    (h : locate kind w ck va pc s = .ok pa) :
    (ck = true → aligned w va = true) ∧ xlate kind va s = .ok pa := by
  unfold locate State.translate at h
  split at h
  · cases h
  · next hc =>
    refine ⟨fun hck => by simpa [hck] using hc, ?_⟩
    revert h
    cases hx : xlate kind va s with
    | ok p => simp
    | fail k => cases hk : excOf k kind <;> simp [hk]
    | undefinedMode => simp

/-- An aligned address that translates: the address phase gives its physical address. -/
theorem locate_of_xlate {kind : Access} {w : Width} {ck : Bool} {va pc : VAddr} {s : State} {pa : PAddr}
    (ha : ck = true → aligned w va = true) (hx : xlate kind va s = .ok pa) : locate kind w ck va pc s = .ok pa := by
  have hc : (ck && !aligned w va) = false := by
    cases ck with
    | false => rfl
    | true => simp [ha rfl]
  simp [locate, hc, State.translate, hx]

/-- A misaligned address: recorded, and an address error raised. -/
theorem locate_misaligned {kind : Access} {w : Width} {va pc : VAddr} {s : State} (ha : aligned w va = false) :
    locate kind w true va pc s = .raised (s.raiseAddress (addressErrorOf kind) va pc) := by
  simp [locate, ha]

/-- A failing translation: its kind is latched, the address recorded, and the paired exception raised. -/
theorem locate_fail {kind : Access} {w : Width} {ck : Bool} {va pc : VAddr} {s : State} {k : TlbFail} {e : ExcKind}
    (ha : ck = true → aligned w va = true) (hx : xlate kind va s = .fail k) (he : excOf k kind = some e) :
    locate kind w ck va pc s = .raised ({ s with tlbError := some k }.raiseAddress e va pc) := by
  have hc : (ck && !aligned w va) = false := by
    cases ck with
    | false => rfl
    | true => simp [ha rfl]
  simp [locate, hc, State.translate, hx, he, tlbErrorAfter]

theorem withDataAddr_ok {kind : Access} {w : Width} {ck : Bool} {base : RegIdx} {imm : BitVec 16} {s : State}
    {pa : PAddr} (h : dataAddr kind w ck base imm s = .ok pa) (k : PAddr → Result) :
    withDataAddr kind w ck base imm s k = k pa := by
  simp [withDataAddr, h]

theorem withDataAddr_raised {kind : Access} {w : Width} {ck : Bool} {base : RegIdx} {imm : BitVec 16} {s t : State}
    (h : dataAddr kind w ck base imm s = .raised t) (k : PAddr → Result) :
    withDataAddr kind w ck base imm s k = .next t := by
  simp [withDataAddr, h]

theorem withDataAddr_halted {kind : Access} {w : Width} {ck : Bool} {base : RegIdx} {imm : BitVec 16} {s : State}
    {f : Fault} (h : dataAddr kind w ck base imm s = .halted f) (k : PAddr → Result) :
    withDataAddr kind w ck base imm s k = .fault f := by
  simp [withDataAddr, h]

/-- Everything an instruction over `DataAddr` can do, when it answers a next state. -/
theorem withDataAddr_next {kind : Access} {w : Width} {ck : Bool} {base : RegIdx} {imm : BitVec 16} {s t : State}
    {k : PAddr → Result} (h : withDataAddr kind w ck base imm s k = .next t) :
    (∃ pa, dataAddr kind w ck base imm s = .ok pa ∧ k pa = .next t) ∨ dataAddr kind w ck base imm s = .raised t := by
  unfold withDataAddr at h
  split at h
  · next pa hd => exact .inl ⟨pa, hd, h⟩
  · next u hd =>
    cases h
    exact .inr hd
  · cases h

-- Loads and stores.

theorem load_ok {w : Width} {ck : Bool} {rt base : RegIdx} {imm : BitVec 16} {ext : DWord → DWord} {s : State}
    {pa : PAddr} (h : dataAddr .load w ck base imm s = .ok pa) :
    s.load w ck rt base imm ext = .next ((s.memRead pa w).2.writeReg rt (ext (s.memReadValue pa w))) :=
  withDataAddr_ok h _

theorem loadMerged_ok {w : Width} {rt base : RegIdx} {imm : BitVec 16} {m : VAddr → DWord → DWord → DWord} {s : State}
    {pa : PAddr} (h : dataAddr .load w false base imm s = .ok pa) :
    s.loadMerged w rt base imm m = .next ((s.memRead (alignDown w pa) w).2.writeReg rt
      (m (s.ea base imm) (s.readReg rt) (s.memReadValue (alignDown w pa) w))) :=
  withDataAddr_ok h _

theorem store_ok {w : Width} {ck : Bool} {rt base : RegIdx} {imm : BitVec 16} {s : State} {pa : PAddr}
    (h : dataAddr .store w ck base imm s = .ok pa) :
    s.store w ck rt base imm = .next (s.memWrite pa w (s.readReg rt)) :=
  withDataAddr_ok h _

theorem storeMerged_ok {w : Width} {rt base : RegIdx} {imm : BitVec 16} {m : VAddr → DWord → DWord → DWord}
    {s : State} {pa : PAddr} (h : dataAddr .store w false base imm s = .ok pa) :
    s.storeMerged w rt base imm m = .next ((s.memRead (alignDown w pa) w).2.memWrite (alignDown w pa) w
      (m (s.ea base imm) (s.memReadValue (alignDown w pa) w) (s.readReg rt))) :=
  withDataAddr_ok h _

theorem loadLinked_ok {w : Width} {rt base : RegIdx} {imm : BitVec 16} {ext : DWord → DWord} {s : State} {pa : PAddr}
    (h : dataAddr .load w true base imm s = .ok pa) :
    s.loadLinked w rt base imm ext =
      .next (((s.memRead pa w).2.writeReg rt (ext (s.memReadValue pa w))).openReservation pa) :=
  withDataAddr_ok h _

theorem storeConditional_ok {w : Width} {rt base : RegIdx} {imm : BitVec 16} {s : State} {pa : PAddr}
    (h : dataAddr .store w true base imm s = .ok pa) :
    s.storeConditional w rt base imm = .next
      (((s.storeIfLinked pa w (s.readReg rt)).writeReg rt (boolToDWord s.llBit)).closeReservation) :=
  withDataAddr_ok h _

/-- A port write to RAM, byte by byte: the datum's bytes from `pa` on, every other byte as before. -/
theorem readByte_write (m : Memory) (pa a : PAddr) (w : Width) (v : DWord) :
    (m.write pa w v).readByte a =
      if (a - pa).toNat < w.bytes then byteAt w v (a - pa).toNat else m.readByte a := by
  have key : ∀ k, k ≤ 8 → (m.writeBytes pa w v k).readByte a =
      if (a - pa).toNat < k then byteAt w v (a - pa).toNat else m.readByte a := by
    intro k
    induction k with
    | zero => intro _; simp [Memory.writeBytes]
    | succ k ih =>
      intro hk
      have hk' := ih (by omega)
      simp only [Memory.writeBytes]
      rw [readByte_writeByte, hk']
      by_cases he : a = pa + BitVec.ofNat 32 k
      · have hd : (a - pa).toNat = k := by
          subst he
          rw [BitVec.add_comm, BitVec.add_sub_cancel, BitVec.toNat_ofNat, Nat.mod_eq_of_lt (by omega)]
        rw [if_pos he, hd, if_pos (by omega)]
      · have hd : (a - pa).toNat ≠ k := by
          intro hd
          apply he
          have : a - pa = BitVec.ofNat 32 k := BitVec.eq_of_toNat_eq (by
            rw [hd, BitVec.toNat_ofNat, Nat.mod_eq_of_lt (by omega)])
          rw [← this, BitVec.add_comm, BitVec.sub_add_cancel]
        rw [if_neg he]
        by_cases hlt : (a - pa).toNat < k
        · rw [if_pos hlt, if_pos (by omega)]
        · rw [if_neg hlt, if_neg (by omega)]
  exact key w.bytes (by cases w <;> decide)

/-- A port write changes no byte outside its datum, whatever the region. -/
theorem readByte_memWrite_other {s : State} {pa a : PAddr} {w : Width} {v : DWord} (h : ¬(a - pa).toNat < w.bytes) :
    (s.memWrite pa w v).mem.readByte a = s.mem.readByte a := by
  simp only [memWrite_mem, State.memAfterWrite]
  split
  · rw [readByte_write, if_neg h]
  · rfl

/-- A port write to RAM leaves the datum's bytes. -/
theorem readByte_memWrite_ram {s : State} {pa a : PAddr} {w : Width} {v : DWord} (hr : s.region pa = some .ram)
    (h : (a - pa).toNat < w.bytes) : (s.memWrite pa w v).mem.readByte a = byteAt w v (a - pa).toNat := by
  simp only [memWrite_mem, State.memAfterWrite, hr]
  rw [readByte_write, if_pos h]

-- The gates.

theorem withCop0_open {s : State} (h : cop0Gated s = false) (k : Result) : withCop0 s k = k := by
  simp [withCop0, h]

theorem withCop0_closed {s : State} (h : cop0Gated s = true) (k : Result) :
    withCop0 s k = .next (s.raise .coprocessorUnusable 0 s.oldPC s.curDS) := by
  simp [withCop0, h, raiseHere]

theorem withCop1_open {s : State} (h : statusCU1 s.cop0.status = true) (k : Result) : withCop1 s k = k := by
  simp [withCop1, h]

theorem withCop1_closed {s : State} (h : statusCU1 s.cop0.status = false) (k : Result) :
    withCop1 s k = .next (s.raise .coprocessorUnusable 1 s.oldPC s.curDS) := by
  simp [withCop1, h, raiseHere]

-- The TLB scan (R108, R114).

/-- The scan finds the first match: it matches, its index is its place, and nothing before it matches. -/
theorem tlbScan_some {asid : BitVec 8} {va : VAddr} {es : List TlbEntry} {n i : Nat} {e : TlbEntry}
    (h : tlbScan asid va es n = some (i, e)) :
    ∃ k, i = n + k ∧ es[k]? = some e ∧ e.matches asid va = true ∧
      ∀ j < k, ∀ f, es[j]? = some f → f.matches asid va = false := by
  induction es generalizing n with
  | nil => cases h
  | cons f es ih =>
    simp only [tlbScan] at h
    split at h
    · next hm =>
      cases h
      exact ⟨0, rfl, rfl, hm, fun j hj => absurd hj (Nat.not_lt_zero j)⟩
    · next hm =>
      obtain ⟨k, hi, hk, hme, hbefore⟩ := ih h
      refine ⟨k + 1, by omega, by simpa using hk, hme, ?_⟩
      intro j hj g hg
      cases j with
      | zero =>
        simp only [List.getElem?_cons_zero, Option.some.injEq] at hg
        subst hg
        simpa using hm
      | succ j => exact hbefore j (by omega) g (by simpa using hg)

theorem tlbScan_none {asid : BitVec 8} {va : VAddr} {es : List TlbEntry} {n : Nat} :
    tlbScan asid va es n = none ↔ ∀ e ∈ es, e.matches asid va = false := by
  induction es generalizing n with
  | nil => simp [tlbScan]
  | cons f es ih =>
    simp only [tlbScan]
    split
    · next hm => simp [hm]
    · next hm => simp [ih, hm]

/-- A found entry's index names an entry of the TLB. -/
theorem tlbFind_lt {tlb : Vector TlbEntry 32} {asid : BitVec 8} {va : VAddr} {i : Nat} {e : TlbEntry}
    (h : tlbFind tlb asid va = some (i, e)) : i < 32 := by
  obtain ⟨k, hi, hk, -, -⟩ := tlbScan_some h
  have : k < tlb.toList.length := (List.getElem?_eq_some_iff.mp hk).1
  simp at this
  omega

-- The environment.

theorem applyEvents_append (es es' : List EnvEvent) (s : State) :
    State.applyEvents (es ++ es') s = State.applyEvents es' (State.applyEvents es s) := by
  induction es generalizing s with
  | nil => rfl
  | cons e es ih => exact ih _

/-- What any gap's events leave alone. -/
theorem arrive_frame (s : State) :
    s.arrive.gpr = s.gpr ∧ s.arrive.hi = s.hi ∧ s.arrive.lo = s.lo ∧ s.arrive.pc = s.pc ∧ s.arrive.nextPC = s.nextPC
      ∧ s.arrive.oldPC = s.oldPC ∧ s.arrive.delaySlot = s.delaySlot ∧ s.arrive.curDS = s.curDS
      ∧ s.arrive.llBit = s.llBit ∧ s.arrive.tlbError = s.tlbError ∧ s.arrive.tlb = s.tlb
      ∧ s.arrive.params = s.params ∧ s.arrive.ports = s.ports ∧ s.arrive.draws = s.draws := by
  have key : ∀ (es : List EnvEvent) (t : State),
      let u := State.applyEvents es t
      u.gpr = t.gpr ∧ u.hi = t.hi ∧ u.lo = t.lo ∧ u.pc = t.pc ∧ u.nextPC = t.nextPC ∧ u.oldPC = t.oldPC
        ∧ u.delaySlot = t.delaySlot ∧ u.curDS = t.curDS ∧ u.llBit = t.llBit ∧ u.tlbError = t.tlbError
        ∧ u.tlb = t.tlb ∧ u.params = t.params ∧ u.ports = t.ports ∧ u.draws = t.draws := by
    intro es
    induction es with
    | nil => intro t; exact ⟨rfl, rfl, rfl, rfl, rfl, rfl, rfl, rfl, rfl, rfl, rfl, rfl, rfl, rfl⟩
    | cons e es ih => intro t; exact ih (t.applyEvent e)
  unfold State.arrive
  split
  · exact ⟨rfl, rfl, rfl, rfl, rfl, rfl, rfl, rfl, rfl, rfl, rfl, rfl, rfl, rfl⟩
  · exact key _ _

/-- What any gap's events keep of COP0: every register but Count and Cause. -/
theorem applyEvents_status (es : List EnvEvent) (s : State) :
    (State.applyEvents es s).cop0.status = s.cop0.status ∧ (State.applyEvents es s).cop0.entryHi = s.cop0.entryHi := by
  induction es generalizing s with
  | nil => exact ⟨rfl, rfl⟩
  | cons e es ih =>
    have h := ih (s.applyEvent e)
    cases e <;> exact h

-- A step.

/-- Everything a step can do, when it answers a next state: an exception at the fetch, an interrupt, or the decoded
instruction on the advanced state. -/
theorem step_cases {s t : State} (h : step s = .next t) :
    (∃ u, s.beginStep.fetch = .raised u ∧ t = u) ∨
    (∃ w u, s.beginStep.fetch = .word w u ∧ interruptDue u = true ∧ t = u.takeInterrupt) ∨
    (∃ w u i, s.beginStep.fetch = .word w u ∧ interruptDue u = false ∧ decode w = .ok i ∧ exec i u.advance = .next t) := by
  unfold step at h
  split at h
  · next w u hf =>
    split at h
    · next hi =>
      cases h
      exact .inr (.inl ⟨w, u, hf, hi, rfl⟩)
    · next hi =>
      unfold stepWord at h
      split at h
      · next i hd => exact .inr (.inr ⟨w, u, i, hf, by simpa using hi, hd, h⟩)
      · cases h
  · next u hf =>
    cases h
    exact .inl ⟨_, hf, rfl⟩
  · cases h

end Sys2Proof.Laws
end

