-- ==== Sys2Proof/Laws/Exec.lean ====
section
/-! SUPPORT. Everything an instruction can do, said once: `Effect i s t` lists the shapes a next state can have, with what
each shape needs of the instruction and of the state, and `exec_effect` says that every instruction has one of them. -/

namespace Sys2Proof.Laws

open Sys2Proof.Machine

/-- Instruction `i` stores to memory. -/
def Storing (i : Instr) : Prop := ∃ x, Safety.accessOf i = some x ∧ x.kind = .store

/-- The shapes of a next state of instruction `i` from `s`. -/
inductive Effect (i : Instr) (s : State) : State → Prop
  /-- Nothing: CACHE, SYNC, a trap not taken, a discarded move to COP0. -/
  | nothing : Effect i s s
  /-- One register, with port calls (loads, moves from the FPU) and draws (moves from COP0). -/
  | register (r : RegIdx) (v : DWord) (ports : List Config.PortCall) (draws : Nat) :
      Effect i s { s.writeReg r v with ports := ports, draws := draws }
  /-- HI and LO. -/
  | hilo (h l : DWord) : i.cls = .muldiv → Effect i s (s.setHiLo h l)
  /-- An exception of the instruction's own, perhaps after a call on the FPU. -/
  | raised (kind : ExcKind) (cop : BitVec 2) (ports : List Config.PortCall) :
      Effect i s ({ s with ports := ports }.raise kind cop s.oldPC s.curDS)
  /-- An address fault of a load or store. -/
  | addressRaised (kind : ExcKind) (va : VAddr) (err : Option TlbFail) :
      Effect i s ({ s with tlbError := err }.raiseAddress kind va s.oldPC)
  /-- A branch or jump, perhaps with a link or after a call on the FPU. -/
  | branched (r : RegIdx) (v : DWord) (ports : List Config.PortCall) (c : Bool) (target : VAddr) :
      i.endsBlock = true → Effect i s ({ s.writeReg r v with ports := ports }.branch c target)
  /-- A likely branch. -/
  | likely (r : RegIdx) (v : DWord) (ports : List Config.PortCall) (c : Bool) (target : VAddr) :
      i.endsBlock = true → Effect i s ({ s.writeReg r v with ports := ports }.branchLikely c target)
  /-- A store. -/
  | stored (pa : PAddr) (w : Width) (v : DWord) (ports : List Config.PortCall) :
      Storing i → Effect i s { s with mem := s.memAfterWrite pa w v, ports := ports }
  /-- A load that opens the reservation. -/
  | linked (r : RegIdx) (v : DWord) (ports : List Config.PortCall) (pa : PAddr) :
      i.cls = .llsc → Effect i s ({ s.writeReg r v with ports := ports }.openReservation pa)
  /-- A conditional store that stored. -/
  | conditional (r : RegIdx) (u : DWord) (pa : PAddr) (w : Width) (v : DWord) (ports : List Config.PortCall) :
      i.cls = .llsc → Storing i →
        Effect i s { s.writeReg r u with mem := s.memAfterWrite pa w v, ports := ports, llBit := false }
  /-- A conditional store that did not store. -/
  | lost (r : RegIdx) (u : DWord) : i.cls = .llsc → Effect i s { s.writeReg r u with llBit := false }
  /-- A call on the FPU. -/
  | called (ports : List Config.PortCall) : Effect i s { s with ports := ports }
  /-- A move to COP0. -/
  | moved (r : Cop0Reg) (v : DWord) : cop0Gated s = false → Effect i s { s with cop0 := s.cop0.write r v }
  /-- TLBR. -/
  | staged (k : Fin 32) : cop0Gated s = false → Effect i s (s.tlbRead k)
  /-- TLBWI and TLBWR. -/
  | tlbWritten (k : Fin 32) (draws : Nat) :
      cop0Gated s = false → i = .tlbwi ∨ i = .tlbwr → Effect i s { s.tlbWrite k with draws := draws }
  /-- TLBP. -/
  | probed : cop0Gated s = false → Effect i s s.tlbProbe
  /-- ERET. -/
  | returned : cop0Gated s = false → i = .eret → Effect i s s.returnFromException

theorem effect_put {i : Instr} {s t : State} {r : RegIdx} {v : DWord} (h : s.put r v = .next t) : Effect i s t := by
  cases h
  exact .register r v s.ports s.draws

theorem effect_putChecked {i : Instr} {s t : State} {b : Bool} {r : RegIdx} {v : DWord}
    (h : s.putChecked b r v = .next t) : Effect i s t := by
  cases b
  · exact effect_put h
  · cases h
    exact .raised .overflow 0 s.ports

theorem effect_trapIf {i : Instr} {s t : State} {b : Bool} (h : s.trapIf b = .next t) : Effect i s t := by
  cases b
  · cases h
    exact .nothing
  · cases h
    exact .raised .trap 0 s.ports

theorem effect_raiseHere {i : Instr} {s t : State} {kind : ExcKind} {cop : BitVec 2} (h : raiseHere kind cop s = .next t) :
    Effect i s t := by
  cases h
  exact .raised kind cop s.ports

/-- The exception an address phase takes is an address fault. -/
theorem locate_raised {kind : Access} {w : Width} {ck : Bool} {va pc : VAddr} {s t : State}
    (h : locate kind w ck va pc s = .raised t) : ∃ e err, t = { s with tlbError := err }.raiseAddress e va pc := by
  unfold locate at h
  split at h
  · cases h
    exact ⟨_, s.tlbError, rfl⟩
  · split at h
    · cases h
    · next k u hx =>
      split at h
      · next e he =>
        cases h
        have hu : u = (s.translate kind va).2 := by rw [hx]
        exact ⟨e, _, by rw [hu]; rfl⟩
      · cases h
    · cases h

theorem effect_withDataAddr {i : Instr} {kind : Access} {w : Width} {ck : Bool} {base : RegIdx} {imm : BitVec 16}
    {s t : State} {k : PAddr → Result} (h : withDataAddr kind w ck base imm s k = .next t)
    (hk : ∀ pa, k pa = .next t → Effect i s t) : Effect i s t := by
  rcases withDataAddr_next h with ⟨pa, -, hp⟩ | hr
  · exact hk pa hp
  · obtain ⟨e, err, rfl⟩ := locate_raised hr
    exact .addressRaised e _ err

theorem effect_load {i : Instr} {w : Width} {ck : Bool} {rt base : RegIdx} {imm : BitVec 16} {ext : DWord → DWord}
    {s t : State} (h : s.load w ck rt base imm ext = .next t) : Effect i s t :=
  effect_withDataAddr h fun pa hp => by
    cases hp
    exact .register rt _ (s.portsAfterRead pa w) s.draws

theorem effect_loadMerged {i : Instr} {w : Width} {rt base : RegIdx} {imm : BitVec 16}
    {m : VAddr → DWord → DWord → DWord} {s t : State} (h : s.loadMerged w rt base imm m = .next t) : Effect i s t :=
  effect_withDataAddr h fun pa hp => by
    cases hp
    exact .register rt _ (s.portsAfterRead (alignDown w pa) w) s.draws

theorem effect_store {i : Instr} {w : Width} {ck : Bool} {rt base : RegIdx} {imm : BitVec 16} {s t : State}
    (hi : Storing i) (h : s.store w ck rt base imm = .next t) : Effect i s t :=
  effect_withDataAddr h fun pa hp => by
    cases hp
    exact .stored pa w _ _ hi

theorem effect_storeMerged {i : Instr} {w : Width} {rt base : RegIdx} {imm : BitVec 16}
    {m : VAddr → DWord → DWord → DWord} {s t : State} (hi : Storing i) (h : s.storeMerged w rt base imm m = .next t) :
    Effect i s t :=
  effect_withDataAddr h fun pa hp => by
    cases hp
    exact .stored (alignDown w pa) w _ _ hi

theorem effect_loadLinked {i : Instr} {w : Width} {rt base : RegIdx} {imm : BitVec 16} {ext : DWord → DWord}
    {s t : State} (hi : i.cls = .llsc) (h : s.loadLinked w rt base imm ext = .next t) : Effect i s t :=
  effect_withDataAddr h fun pa hp => by
    cases hp
    exact .linked rt _ (s.portsAfterRead pa w) pa hi

theorem effect_storeConditional {i : Instr} {w : Width} {rt base : RegIdx} {imm : BitVec 16} {s t : State}
    (hi : i.cls = .llsc) (hs : Storing i) (h : s.storeConditional w rt base imm = .next t) : Effect i s t :=
  effect_withDataAddr h fun pa hp => by
    cases hp
    cases hl : s.llBit
    · have e : s.storeIfLinked pa w (s.readReg rt) = s := by simp [State.storeIfLinked, hl]
      rw [e]
      exact .lost rt _ hi
    · have e : s.storeIfLinked pa w (s.readReg rt) = s.memWrite pa w (s.readReg rt) := by
        simp [State.storeIfLinked, hl]
      rw [e]
      exact .conditional rt _ pa w _ _ hi hs

theorem effect_withCop0 {i : Instr} {s t : State} {k : Result} (h : withCop0 s k = .next t)
    (hk : cop0Gated s = false → k = .next t → Effect i s t) : Effect i s t := by
  cases hg : cop0Gated s
  · rw [withCop0_open hg] at h
    exact hk hg h
  · rw [withCop0_closed hg] at h
    cases h
    exact .raised .coprocessorUnusable 0 s.ports

theorem effect_cop0Write {i : Instr} {s t : State} {n : RegIdx} {v : DWord} (hg : cop0Gated s = false)
    (h : s.cop0Write n v = .next t) : Effect i s t := by
  unfold State.cop0Write at h
  split at h
  · cases h
    exact .moved _ v hg
  · cases h
    exact .nothing
  · split at h
    · cases h
    · cases h
      exact .nothing

theorem effect_withCop1 {i : Instr} {s t : State} {k : Result} (h : withCop1 s k = .next t)
    (hk : k = .next t → Effect i s t) : Effect i s t := by
  cases hu : statusCU1 s.cop0.status
  · rw [withCop1_closed hu] at h
    cases h
    exact .raised .coprocessorUnusable 1 s.ports
  · rw [withCop1_open hu] at h
    exact hk h

theorem effect_fpuReport {i : Instr} {s t : State} {c : Config.PortCall} (h : s.fpuReport c = .next t) :
    Effect i s t := by
  unfold State.fpuReport at h
  split at h
  · cases h
    exact .raised .floatingPoint 0 (c :: s.ports)
  · cases h
    exact .called (c :: s.ports)

theorem effect_fpuToReg {i : Instr} {s t : State} {word : Word} {rt : RegIdx} (h : s.fpuToReg word rt = .next t) :
    Effect i s t :=
  effect_withCop1 h fun e => by
    cases e
    exact .register rt _ (_ :: s.ports) s.draws

theorem effect_fpuLoad {i : Instr} {s t : State} {w : Width} {ft base : RegIdx} {imm : BitVec 16}
    (h : s.fpuLoad w ft base imm = .next t) : Effect i s t :=
  effect_withCop1 h fun e => effect_withDataAddr e fun pa hp => by
    cases hp
    exact .called (_ :: s.portsAfterRead pa w)

theorem effect_fpuStore {i : Instr} {s t : State} {w : Width} {ft base : RegIdx} {imm : BitVec 16} (hi : Storing i)
    (h : s.fpuStore w ft base imm = .next t) : Effect i s t :=
  effect_withCop1 h fun e => effect_withDataAddr e fun pa hp => by
    cases hp
    exact .stored pa w _ _ hi

theorem effect_tlbr {i : Instr} {s t : State} (hg : cop0Gated s = false) (h : s.tlbReadIndexed = .next t) :
    Effect i s t := by
  unfold State.tlbReadIndexed at h
  split at h
  · cases h
    exact .staged _ hg
  · cases h

theorem effect_tlbwi {s t : State} (hg : cop0Gated s = false) (h : s.tlbWriteIndexed = .next t) :
    Effect .tlbwi s t := by
  unfold State.tlbWriteIndexed at h
  split at h
  · cases h
    exact .tlbWritten _ s.draws hg (.inl rfl)
  · cases h

theorem effect_tlbwr {s t : State} (hg : cop0Gated s = false) (h : s.tlbWriteRandom = .next t) :
    Effect .tlbwr s t := by
  unfold State.tlbWriteRandom at h
  split at h
  · cases h
    exact .tlbWritten _ (s.draws + 1) hg (.inr rfl)
  · cases h

theorem effect_branch {i : Instr} {s t : State} {c : Bool} {target : VAddr} (hi : i.endsBlock = true)
    (h : Host.Outcome.next (φ := Fault) (ρ := Refusal) (s.branch c target) = .next t) : Effect i s t := by
  cases h
  exact .branched 0 0 s.ports c target hi

theorem effect_linkBranch {i : Instr} {s t : State} {r : RegIdx} {c : Bool} {target : VAddr} (hi : i.endsBlock = true)
    (h : Host.Outcome.next (φ := Fault) (ρ := Refusal) ((s.link r).branch c target) = .next t) : Effect i s t := by
  cases h
  exact .branched r s.nextPC s.ports c target hi

theorem effect_likely {i : Instr} {s t : State} {c : Bool} {target : VAddr} (hi : i.endsBlock = true)
    (h : Host.Outcome.next (φ := Fault) (ρ := Refusal) (s.branchLikely c target) = .next t) : Effect i s t := by
  cases h
  exact .likely 0 0 s.ports c target hi

theorem effect_linkLikely {i : Instr} {s t : State} {r : RegIdx} {c : Bool} {target : VAddr} (hi : i.endsBlock = true)
    (h : Host.Outcome.next (φ := Fault) (ρ := Refusal) ((s.link r).branchLikely c target) = .next t) :
    Effect i s t := by
  cases h
  exact .likely r s.nextPC s.ports c target hi

theorem effect_fpuBranch {i : Instr} {s t : State} {want : Bool} {imm : BitVec 16} (hi : i.endsBlock = true)
    (h : s.fpuBranch want imm = .next t) : Effect i s t :=
  effect_withCop1 h fun e => by
    cases e
    exact .branched 0 0 (_ :: s.ports) _ _ hi

theorem effect_fpuBranchLikely {i : Instr} {s t : State} {want : Bool} {imm : BitVec 16} (hi : i.endsBlock = true)
    (h : s.fpuBranchLikely want imm = .next t) : Effect i s t :=
  effect_withCop1 h fun e => by
    cases e
    exact .likely 0 0 (_ :: s.ports) _ _ hi

theorem effect_muldiv {i : Instr} {s t : State} {p : HiLo} (hi : i.cls = .muldiv) (h : s.putHiLo p = .next t) :
    Effect i s t := by
  cases h
  exact .hilo _ _ hi

theorem effect_mthi {s t : State} {r : RegIdx} (h : execMthi r s = .next t) : Effect (.mthi r) s t := by
  cases h
  exact .hilo _ s.lo rfl

theorem effect_mtlo {s t : State} {r : RegIdx} (h : execMtlo r s = .next t) : Effect (.mtlo r) s t := by
  cases h
  exact .hilo s.hi _ rfl

theorem effect_nothing {i : Instr} {s t : State} (h : Host.Outcome.next (φ := Fault) (ρ := Refusal) s = .next t) :
    Effect i s t := by
  cases h
  exact .nothing

theorem effect_moveFrom {i : Instr} {s t : State} {n rt : RegIdx} {v : DWord}
    (h : withCop0 s (.next ((s.afterCop0Read n).writeReg rt v)) = .next t) : Effect i s t :=
  effect_withCop0 h fun _ e => by
    cases e
    exact .register rt v s.ports _

theorem effect_tlbp {s t : State} (h : withCop0 s (.next s.tlbProbe) = .next t) : Effect .tlbp s t :=
  effect_withCop0 h fun hg e => by
    cases e
    exact .probed hg

theorem effect_eret {s t : State} (h : withCop0 s (.next s.returnFromException) = .next t) : Effect .eret s t :=
  effect_withCop0 h fun hg e => by
    cases e
    exact .returned hg rfl

/-- Every next state of every instruction has one of the shapes of `Effect`. -/
theorem exec_effect {i : Instr} {s t : State} (h : exec i s = .next t) : Effect i s t := by
  cases i with
  | add _ _ _ => exact effect_putChecked h
  | addu _ _ _ => exact effect_put h
  | sub _ _ _ => exact effect_putChecked h
  | subu _ _ _ => exact effect_put h
  | addi _ _ _ => exact effect_putChecked h
  | addiu _ _ _ => exact effect_put h
  | dadd _ _ _ => exact effect_putChecked h
  | daddu _ _ _ => exact effect_put h
  | dsub _ _ _ => exact effect_putChecked h
  | dsubu _ _ _ => exact effect_put h
  | daddi _ _ _ => exact effect_putChecked h
  | daddiu _ _ _ => exact effect_put h
  | and _ _ _ => exact effect_put h
  | or _ _ _ => exact effect_put h
  | xor _ _ _ => exact effect_put h
  | nor _ _ _ => exact effect_put h
  | andi _ _ _ => exact effect_put h
  | ori _ _ _ => exact effect_put h
  | xori _ _ _ => exact effect_put h
  | lui _ _ => exact effect_put h
  | slt _ _ _ => exact effect_put h
  | sltu _ _ _ => exact effect_put h
  | slti _ _ _ => exact effect_put h
  | sltiu _ _ _ => exact effect_put h
  | sll _ _ _ => exact effect_put h
  | srl _ _ _ => exact effect_put h
  | sra _ _ _ => exact effect_put h
  | sllv _ _ _ => exact effect_put h
  | srlv _ _ _ => exact effect_put h
  | srav _ _ _ => exact effect_put h
  | dsll _ _ _ => exact effect_put h
  | dsrl _ _ _ => exact effect_put h
  | dsra _ _ _ => exact effect_put h
  | dsllv _ _ _ => exact effect_put h
  | dsrlv _ _ _ => exact effect_put h
  | dsrav _ _ _ => exact effect_put h
  | dsll32 _ _ _ => exact effect_put h
  | dsrl32 _ _ _ => exact effect_put h
  | dsra32 _ _ _ => exact effect_put h
  | mult _ _ => exact effect_muldiv rfl h
  | multu _ _ => exact effect_muldiv rfl h
  | div _ _ => exact effect_muldiv rfl h
  | divu _ _ => exact effect_muldiv rfl h
  | dmult _ _ => exact effect_muldiv rfl h
  | dmultu _ _ => exact effect_muldiv rfl h
  | ddiv _ _ => exact effect_muldiv rfl h
  | ddivu _ _ => exact effect_muldiv rfl h
  | mfhi _ => exact effect_put h
  | mthi _ => exact effect_mthi h
  | mflo _ => exact effect_put h
  | mtlo _ => exact effect_mtlo h
  | j _ => exact effect_branch rfl h
  | jal _ => exact effect_linkBranch rfl h
  | jr _ => exact effect_branch rfl h
  | jalr _ _ => exact effect_linkBranch rfl h
  | beq _ _ _ => exact effect_branch rfl h
  | bne _ _ _ => exact effect_branch rfl h
  | blez _ _ => exact effect_branch rfl h
  | bgtz _ _ => exact effect_branch rfl h
  | beql _ _ _ => exact effect_likely rfl h
  | bnel _ _ _ => exact effect_likely rfl h
  | blezl _ _ => exact effect_likely rfl h
  | bgtzl _ _ => exact effect_likely rfl h
  | bltz _ _ => exact effect_branch rfl h
  | bgez _ _ => exact effect_branch rfl h
  | bltzl _ _ => exact effect_likely rfl h
  | bgezl _ _ => exact effect_likely rfl h
  | bltzal _ _ => exact effect_linkBranch rfl h
  | bgezal _ _ => exact effect_linkBranch rfl h
  | bltzall _ _ => exact effect_linkLikely rfl h
  | bgezall _ _ => exact effect_linkLikely rfl h
  | lb _ _ _ => exact effect_load h
  | lbu _ _ _ => exact effect_load h
  | lh _ _ _ => exact effect_load h
  | lhu _ _ _ => exact effect_load h
  | lw _ _ _ => exact effect_load h
  | lwu _ _ _ => exact effect_load h
  | ld _ _ _ => exact effect_load h
  | lwl _ _ _ => exact effect_loadMerged h
  | lwr _ _ _ => exact effect_loadMerged h
  | ldl _ _ _ => exact effect_loadMerged h
  | ldr _ _ _ => exact effect_loadMerged h
  | sb _ _ _ => exact effect_store ⟨_, rfl, rfl⟩ h
  | sh _ _ _ => exact effect_store ⟨_, rfl, rfl⟩ h
  | sw _ _ _ => exact effect_store ⟨_, rfl, rfl⟩ h
  | sd _ _ _ => exact effect_store ⟨_, rfl, rfl⟩ h
  | swl _ _ _ => exact effect_storeMerged ⟨_, rfl, rfl⟩ h
  | swr _ _ _ => exact effect_storeMerged ⟨_, rfl, rfl⟩ h
  | sdl _ _ _ => exact effect_storeMerged ⟨_, rfl, rfl⟩ h
  | sdr _ _ _ => exact effect_storeMerged ⟨_, rfl, rfl⟩ h
  | ll _ _ _ => exact effect_loadLinked rfl h
  | lld _ _ _ => exact effect_loadLinked rfl h
  | sc _ _ _ => exact effect_storeConditional rfl ⟨_, rfl, rfl⟩ h
  | scd _ _ _ => exact effect_storeConditional rfl ⟨_, rfl, rfl⟩ h
  | cache _ _ _ => exact effect_nothing h
  | sync => exact effect_nothing h
  | tge _ _ _ => exact effect_trapIf h
  | tgeu _ _ _ => exact effect_trapIf h
  | tlt _ _ _ => exact effect_trapIf h
  | tltu _ _ _ => exact effect_trapIf h
  | teq _ _ _ => exact effect_trapIf h
  | tne _ _ _ => exact effect_trapIf h
  | tgei _ _ => exact effect_trapIf h
  | tgeiu _ _ => exact effect_trapIf h
  | tlti _ _ => exact effect_trapIf h
  | tltiu _ _ => exact effect_trapIf h
  | teqi _ _ => exact effect_trapIf h
  | tnei _ _ => exact effect_trapIf h
  | syscall _ => exact effect_raiseHere h
  | brk _ => exact effect_raiseHere h
  | mfc0 _ _ => exact effect_moveFrom h
  | dmfc0 _ _ => exact effect_moveFrom h
  | mtc0 _ _ => exact effect_withCop0 h effect_cop0Write
  | dmtc0 _ _ => exact effect_withCop0 h effect_cop0Write
  | tlbr => exact effect_withCop0 h effect_tlbr
  | tlbwi => exact effect_withCop0 h effect_tlbwi
  | tlbwr => exact effect_withCop0 h effect_tlbwr
  | tlbp => exact effect_tlbp h
  | eret => exact effect_eret h
  | mfc1 _ _ _ => exact effect_fpuToReg h
  | dmfc1 _ _ _ => exact effect_fpuToReg h
  | cfc1 _ _ _ => exact effect_fpuToReg h
  | mtc1 _ _ _ => exact effect_withCop1 h effect_fpuReport
  | dmtc1 _ _ _ => exact effect_withCop1 h effect_fpuReport
  | ctc1 _ _ _ => exact effect_withCop1 h effect_fpuReport
  | bc1f _ => exact effect_fpuBranch rfl h
  | bc1t _ => exact effect_fpuBranch rfl h
  | bc1fl _ => exact effect_fpuBranchLikely rfl h
  | bc1tl _ => exact effect_fpuBranchLikely rfl h
  | lwc1 _ _ _ => exact effect_fpuLoad h
  | ldc1 _ _ _ => exact effect_fpuLoad h
  | swc1 _ _ _ => exact effect_fpuStore ⟨_, rfl, rfl⟩ h
  | sdc1 _ _ _ => exact effect_fpuStore ⟨_, rfl, rfl⟩ h
  | cop1S _ => exact effect_withCop1 h effect_fpuReport
  | cop1D _ => exact effect_withCop1 h effect_fpuReport
  | cop1W _ => exact effect_withCop1 h effect_fpuReport
  | cop1L _ => exact effect_withCop1 h effect_fpuReport

end Sys2Proof.Laws
end

