-- ==== Sys2Proof/Laws/Flags.lean ====
section
/-! SUPPORT. The fields of Status and Cause after each operation that writes them: the field written, and every other
field as before. -/

namespace Sys2Proof.Laws

open Sys2Proof.Machine

-- Status.

@[simp] theorem statusEXL_setEXL (st : Word) : statusEXL (statusSetEXL st) = true := by
  simp [statusEXL, statusSetEXL]

theorem getLsbD_setEXL (st : Word) (i : Nat) (h : i ≠ 1) : (statusSetEXL st).getLsbD i = st.getLsbD i := by
  have hb : (0x00000002#32).getLsbD i = false := by
    by_cases hi : i < 32
    · interval_cases i <;> first | rfl | exact absurd rfl h
    · exact BitVec.getLsbD_of_ge _ _ (by omega)
  simp only [statusSetEXL, BitVec.getLsbD_or, hb, Bool.or_false]

@[simp] theorem statusEXL_clearEXL (st : Word) : statusEXL (statusClearEXL st) = false := by
  simp [statusEXL, statusClearEXL]

theorem getLsbD_clearEXL (st : Word) (i : Nat) (h : i ≠ 1) : (statusClearEXL st).getLsbD i = st.getLsbD i := by
  by_cases hi : i < 32
  · have hb : (0xFFFFFFFD#32).getLsbD i = true := by
      interval_cases i <;> first | rfl | exact absurd rfl h
    simp only [statusClearEXL, BitVec.getLsbD_and, hb, Bool.and_true]
  · rw [BitVec.getLsbD_of_ge _ _ (by omega), BitVec.getLsbD_of_ge _ _ (by omega)]

@[simp] theorem statusERL_clearERL (st : Word) : statusERL (statusClearERL st) = false := by
  simp [statusERL, statusClearERL]

theorem getLsbD_clearERL (st : Word) (i : Nat) (h : i ≠ 2) : (statusClearERL st).getLsbD i = st.getLsbD i := by
  by_cases hi : i < 32
  · have hb : (0xFFFFFFFB#32).getLsbD i = true := by
      interval_cases i <;> first | rfl | exact absurd rfl h
    simp only [statusClearERL, BitVec.getLsbD_and, hb, Bool.and_true]
  · rw [BitVec.getLsbD_of_ge _ _ (by omega), BitVec.getLsbD_of_ge _ _ (by omega)]

-- Cause.

theorem getLsbD_withBD (b : Bool) (c : Word) (i : Nat) :
    (causeWithBD b c).getLsbD i = if i = 31 then b else c.getLsbD i := by
  by_cases hi : i < 32
  · cases b <;> simp only [causeWithBD, if_true, Bool.false_eq_true, if_false, BitVec.getLsbD_or, BitVec.getLsbD_and] <;>
      interval_cases i <;> simp
  · rw [BitVec.getLsbD_of_ge _ _ (by omega), BitVec.getLsbD_of_ge _ _ (by omega), if_neg (by omega)]

theorem getLsbD_withCode (code : BitVec 5) (cop : BitVec 2) (c : Word) (i : Nat) :
    (causeWithCode code cop c).getLsbD i =
      if i < 2 then c.getLsbD i else if i < 7 then code.getLsbD (i - 2)
      else if 28 ≤ i ∧ i < 30 then cop.getLsbD (i - 28) else c.getLsbD i := by
  by_cases hi : i < 32
  · simp only [causeWithCode, BitVec.getLsbD_or, BitVec.getLsbD_and, BitVec.getLsbD_shiftLeft, BitVec.getLsbD_setWidth]
    interval_cases i <;> simp
  · rw [BitVec.getLsbD_of_ge _ _ (by omega), if_neg (by omega), if_neg (by omega), if_neg (by omega),
      BitVec.getLsbD_of_ge _ _ (by omega)]

@[simp] theorem causeExcCode_withCode (code : BitVec 5) (cop : BitVec 2) (c : Word) :
    causeExcCode (causeWithCode code cop c) = code := by
  apply BitVec.eq_of_getLsbD_eq
  intro i hi
  simp only [causeExcCode, BitVec.getLsbD_extractLsb', getLsbD_withCode, hi, decide_true, Bool.true_and,
    show ¬ 2 + i < 2 by omega, show 2 + i < 7 by omega, if_true, if_false, show 2 + i - 2 = i by omega]

@[simp] theorem causeCE_withCode (code : BitVec 5) (cop : BitVec 2) (c : Word) :
    causeCE (causeWithCode code cop c) = cop := by
  apply BitVec.eq_of_getLsbD_eq
  intro i hi
  simp only [causeCE, BitVec.getLsbD_extractLsb', getLsbD_withCode, hi, decide_true, Bool.true_and,
    show ¬ 28 + i < 2 by omega, show ¬ 28 + i < 7 by omega, show 28 ≤ 28 + i ∧ 28 + i < 30 by omega, and_self, if_true,
    if_false, show 28 + i - 28 = i by omega]

@[simp] theorem causeIP_withCode (code : BitVec 5) (cop : BitVec 2) (c : Word) :
    causeIP (causeWithCode code cop c) = causeIP c := by
  apply BitVec.eq_of_getLsbD_eq
  intro i hi
  simp only [causeIP, BitVec.getLsbD_extractLsb', getLsbD_withCode, hi, decide_true, Bool.true_and,
    show ¬ 8 + i < 2 by omega, show ¬ 8 + i < 7 by omega, show ¬ (28 ≤ 8 + i ∧ 8 + i < 30) by omega, if_false]

@[simp] theorem causeBD_withCode (code : BitVec 5) (cop : BitVec 2) (c : Word) :
    causeBD (causeWithCode code cop c) = causeBD c := by
  rw [causeBD, getLsbD_withCode]
  rfl

@[simp] theorem causeIP_withBD (b : Bool) (c : Word) : causeIP (causeWithBD b c) = causeIP c := by
  apply BitVec.eq_of_getLsbD_eq
  intro i hi
  simp only [causeIP, BitVec.getLsbD_extractLsb', getLsbD_withBD, show ¬ 8 + i = 31 by omega, if_false]

@[simp] theorem causeBD_withBD (b : Bool) (c : Word) : causeBD (causeWithBD b c) = b := by
  rw [causeBD, getLsbD_withBD]
  rfl

/-- The interrupt bits after setting some. -/
@[simp] theorem causeIP_setIP (m : BitVec 8) (c : Word) : causeIP (causeSetIP m c) = causeIP c ||| m := by
  apply BitVec.eq_of_getLsbD_eq
  intro i hi
  simp only [causeIP, causeSetIP, BitVec.getLsbD_extractLsb', BitVec.getLsbD_or, BitVec.getLsbD_shiftLeft,
    BitVec.getLsbD_setWidth, hi, decide_true, Bool.true_and, show 8 + i < 32 by omega, show ¬ 8 + i < 8 by omega,
    decide_false, Bool.not_false, show 8 + i - 8 = i by omega, show i < 32 by omega]

/-- The interrupt bits after clearing some. -/
@[simp] theorem causeIP_clearIP (m : BitVec 8) (c : Word) : causeIP (causeClearIP m c) = causeIP c &&& ~~~m := by
  apply BitVec.eq_of_getLsbD_eq
  intro i hi
  simp only [causeIP, causeClearIP, BitVec.getLsbD_extractLsb', BitVec.getLsbD_and, BitVec.getLsbD_not,
    BitVec.getLsbD_shiftLeft, BitVec.getLsbD_setWidth, hi, decide_true, Bool.true_and, show 8 + i < 32 by omega,
    show ¬ 8 + i < 8 by omega, decide_false, Bool.not_false, show 8 + i - 8 = i by omega, show i < 32 by omega]

end Sys2Proof.Laws
end

