-- ==== Sys2Proof/Laws/PerInstr.lean ====
section
/-! SUPPORT. Statements for all instructions, made per instruction. EncodesRow: the word the encoder writes selects the
instruction's own row of the opcode table (R170), whatever the operands. -/

namespace Sys2Proof.Laws

/-- The encoder's word for `i` has the bits of `i`'s row of the opcode table. -/
def EncodesRow.Statement (i : Instr) : Prop := encode i &&& i.row.mask = i.row.value

theorem encR_masked (rs rt rd sa : BitVec 5) (f : BitVec 6) :
    encR rs rt rd sa f &&& 0xFC00003F#32 = (0x00#6 ++ 0#5 ++ 0#5 ++ 0#5 ++ 0#5 ++ f : BitVec 32) :=
  and_parts (y' := BitVec.allOnes 6) (and_parts (y' := 0#5) (and_parts (y' := 0#5) (and_parts (y' := 0#5) (and_parts
      (x' := BitVec.allOnes 6) (y' := 0#5) (and_kept _) (and_dropped _)) (and_dropped _)) (and_dropped _))
      (and_dropped _)) (and_kept _)

theorem encTrap_masked (rs rt : BitVec 5) (code : BitVec 10) (f : BitVec 6) :
    encTrap rs rt code f &&& 0xFC00003F#32 = (0x00#6 ++ 0#5 ++ 0#5 ++ 0#10 ++ f : BitVec 32) :=
  and_parts (y' := BitVec.allOnes 6) (and_parts (y' := 0#10) (and_parts (y' := 0#5) (and_parts (x' := BitVec.allOnes
      6) (y' := 0#5) (and_kept _) (and_dropped _)) (and_dropped _)) (and_dropped _)) (and_kept _)

theorem encCode_masked (code : BitVec 20) (f : BitVec 6) :
    encCode code f &&& 0xFC00003F#32 = (0x00#6 ++ 0#20 ++ f : BitVec 32) :=
  and_parts (y' := BitVec.allOnes 6) (and_parts (x' := BitVec.allOnes 6) (y' := 0#20) (and_kept _) (and_dropped _))
      (and_kept _)

theorem encI_masked (op : BitVec 6) (rs rt : BitVec 5) (imm : BitVec 16) :
    encI op rs rt imm &&& 0xFC000000#32 = (op ++ 0#5 ++ 0#5 ++ 0#16 : BitVec 32) :=
  and_parts (y' := 0#16) (and_parts (y' := 0#5) (and_parts (x' := BitVec.allOnes 6) (y' := 0#5) (and_kept _)
      (and_dropped _)) (and_dropped _)) (and_dropped _)

theorem encJ_masked (op : BitVec 6) (t : BitVec 26) :
    encJ op t &&& 0xFC000000#32 = (op ++ 0#26 : BitVec 32) :=
  and_parts (x' := BitVec.allOnes 6) (y' := 0#26) (and_kept _) (and_dropped _)

theorem encRI_masked (rs sub : BitVec 5) (imm : BitVec 16) :
    encRI rs sub imm &&& 0xFC1F0000#32 = (0x01#6 ++ 0#5 ++ sub ++ 0#16 : BitVec 32) :=
  and_parts (y' := 0#16) (and_parts (y' := BitVec.allOnes 5) (and_parts (x' := BitVec.allOnes 6) (y' := 0#5)
      (and_kept _) (and_dropped _)) (and_kept _)) (and_dropped _)

theorem encCM_masked (op : BitVec 6) (sub rt rd : BitVec 5) (low : BitVec 11) :
    encCM op sub rt rd low &&& 0xFFE00000#32 = (op ++ sub ++ 0#5 ++ 0#5 ++ 0#11 : BitVec 32) :=
  and_parts (y' := 0#11) (and_parts (y' := 0#5) (and_parts (y' := 0#5) (and_parts (x' := BitVec.allOnes 6) (y' :=
      BitVec.allOnes 5) (and_kept _) (and_kept _)) (and_dropped _)) (and_dropped _)) (and_dropped _)

theorem encCB_masked (cond : BitVec 5) (imm : BitVec 16) :
    encCB cond imm &&& 0xFFFF0000#32 = (0x11#6 ++ 0x08#5 ++ cond ++ 0#16 : BitVec 32) :=
  and_parts (y' := 0#16) (and_parts (y' := BitVec.allOnes 5) (and_parts (x' := BitVec.allOnes 6) (y' :=
      BitVec.allOnes 5) (and_kept _) (and_kept _)) (and_kept _)) (and_dropped _)

theorem encCF_masked (fmt : BitVec 5) (fn : BitVec 21) :
    encCF fmt fn &&& 0xFFE00000#32 = (0x11#6 ++ fmt ++ 0#21 : BitVec 32) :=
  and_parts (y' := 0#21) (and_parts (x' := BitVec.allOnes 6) (y' := BitVec.allOnes 5) (and_kept _) (and_kept _))
      (and_dropped _)

theorem EncodesRow.add (rd rs rt : RegIdx) : EncodesRow.Statement (.add rd rs rt) := encR_masked ..

theorem EncodesRow.addu (rd rs rt : RegIdx) : EncodesRow.Statement (.addu rd rs rt) := encR_masked ..

theorem EncodesRow.sub (rd rs rt : RegIdx) : EncodesRow.Statement (.sub rd rs rt) := encR_masked ..

theorem EncodesRow.subu (rd rs rt : RegIdx) : EncodesRow.Statement (.subu rd rs rt) := encR_masked ..

theorem EncodesRow.addi (rt rs : RegIdx) (imm : BitVec 16) : EncodesRow.Statement (.addi rt rs imm) := encI_masked ..

theorem EncodesRow.addiu (rt rs : RegIdx) (imm : BitVec 16) : EncodesRow.Statement (.addiu rt rs imm) := encI_masked
    ..

theorem EncodesRow.dadd (rd rs rt : RegIdx) : EncodesRow.Statement (.dadd rd rs rt) := encR_masked ..

theorem EncodesRow.daddu (rd rs rt : RegIdx) : EncodesRow.Statement (.daddu rd rs rt) := encR_masked ..

theorem EncodesRow.dsub (rd rs rt : RegIdx) : EncodesRow.Statement (.dsub rd rs rt) := encR_masked ..

theorem EncodesRow.dsubu (rd rs rt : RegIdx) : EncodesRow.Statement (.dsubu rd rs rt) := encR_masked ..

theorem EncodesRow.daddi (rt rs : RegIdx) (imm : BitVec 16) : EncodesRow.Statement (.daddi rt rs imm) := encI_masked
    ..

theorem EncodesRow.daddiu (rt rs : RegIdx) (imm : BitVec 16) : EncodesRow.Statement (.daddiu rt rs imm) :=
    encI_masked ..

theorem EncodesRow.and (rd rs rt : RegIdx) : EncodesRow.Statement (.and rd rs rt) := encR_masked ..

theorem EncodesRow.or (rd rs rt : RegIdx) : EncodesRow.Statement (.or rd rs rt) := encR_masked ..

theorem EncodesRow.xor (rd rs rt : RegIdx) : EncodesRow.Statement (.xor rd rs rt) := encR_masked ..

theorem EncodesRow.nor (rd rs rt : RegIdx) : EncodesRow.Statement (.nor rd rs rt) := encR_masked ..

theorem EncodesRow.andi (rt rs : RegIdx) (imm : BitVec 16) : EncodesRow.Statement (.andi rt rs imm) := encI_masked ..

theorem EncodesRow.ori (rt rs : RegIdx) (imm : BitVec 16) : EncodesRow.Statement (.ori rt rs imm) := encI_masked ..

theorem EncodesRow.xori (rt rs : RegIdx) (imm : BitVec 16) : EncodesRow.Statement (.xori rt rs imm) := encI_masked ..

theorem EncodesRow.lui (rt : RegIdx) (imm : BitVec 16) : EncodesRow.Statement (.lui rt imm) := encI_masked ..

theorem EncodesRow.slt (rd rs rt : RegIdx) : EncodesRow.Statement (.slt rd rs rt) := encR_masked ..

theorem EncodesRow.sltu (rd rs rt : RegIdx) : EncodesRow.Statement (.sltu rd rs rt) := encR_masked ..

theorem EncodesRow.slti (rt rs : RegIdx) (imm : BitVec 16) : EncodesRow.Statement (.slti rt rs imm) := encI_masked ..

theorem EncodesRow.sltiu (rt rs : RegIdx) (imm : BitVec 16) : EncodesRow.Statement (.sltiu rt rs imm) := encI_masked
    ..

theorem EncodesRow.sll (rd rt : RegIdx) (sa : BitVec 5) : EncodesRow.Statement (.sll rd rt sa) := encR_masked ..

theorem EncodesRow.srl (rd rt : RegIdx) (sa : BitVec 5) : EncodesRow.Statement (.srl rd rt sa) := encR_masked ..

theorem EncodesRow.sra (rd rt : RegIdx) (sa : BitVec 5) : EncodesRow.Statement (.sra rd rt sa) := encR_masked ..

theorem EncodesRow.sllv (rd rt rs : RegIdx) : EncodesRow.Statement (.sllv rd rt rs) := encR_masked ..

theorem EncodesRow.srlv (rd rt rs : RegIdx) : EncodesRow.Statement (.srlv rd rt rs) := encR_masked ..

theorem EncodesRow.srav (rd rt rs : RegIdx) : EncodesRow.Statement (.srav rd rt rs) := encR_masked ..

theorem EncodesRow.dsll (rd rt : RegIdx) (sa : BitVec 5) : EncodesRow.Statement (.dsll rd rt sa) := encR_masked ..

theorem EncodesRow.dsrl (rd rt : RegIdx) (sa : BitVec 5) : EncodesRow.Statement (.dsrl rd rt sa) := encR_masked ..

theorem EncodesRow.dsra (rd rt : RegIdx) (sa : BitVec 5) : EncodesRow.Statement (.dsra rd rt sa) := encR_masked ..

theorem EncodesRow.dsllv (rd rt rs : RegIdx) : EncodesRow.Statement (.dsllv rd rt rs) := encR_masked ..

theorem EncodesRow.dsrlv (rd rt rs : RegIdx) : EncodesRow.Statement (.dsrlv rd rt rs) := encR_masked ..

theorem EncodesRow.dsrav (rd rt rs : RegIdx) : EncodesRow.Statement (.dsrav rd rt rs) := encR_masked ..

theorem EncodesRow.dsll32 (rd rt : RegIdx) (sa : BitVec 5) : EncodesRow.Statement (.dsll32 rd rt sa) := encR_masked ..

theorem EncodesRow.dsrl32 (rd rt : RegIdx) (sa : BitVec 5) : EncodesRow.Statement (.dsrl32 rd rt sa) := encR_masked ..

theorem EncodesRow.dsra32 (rd rt : RegIdx) (sa : BitVec 5) : EncodesRow.Statement (.dsra32 rd rt sa) := encR_masked ..

theorem EncodesRow.mult (rs rt : RegIdx) : EncodesRow.Statement (.mult rs rt) := encR_masked ..

theorem EncodesRow.multu (rs rt : RegIdx) : EncodesRow.Statement (.multu rs rt) := encR_masked ..

theorem EncodesRow.div (rs rt : RegIdx) : EncodesRow.Statement (.div rs rt) := encR_masked ..

theorem EncodesRow.divu (rs rt : RegIdx) : EncodesRow.Statement (.divu rs rt) := encR_masked ..

theorem EncodesRow.dmult (rs rt : RegIdx) : EncodesRow.Statement (.dmult rs rt) := encR_masked ..

theorem EncodesRow.dmultu (rs rt : RegIdx) : EncodesRow.Statement (.dmultu rs rt) := encR_masked ..

theorem EncodesRow.ddiv (rs rt : RegIdx) : EncodesRow.Statement (.ddiv rs rt) := encR_masked ..

theorem EncodesRow.ddivu (rs rt : RegIdx) : EncodesRow.Statement (.ddivu rs rt) := encR_masked ..

theorem EncodesRow.mfhi (rd : RegIdx) : EncodesRow.Statement (.mfhi rd) := encR_masked ..

theorem EncodesRow.mthi (rs : RegIdx) : EncodesRow.Statement (.mthi rs) := encR_masked ..

theorem EncodesRow.mflo (rd : RegIdx) : EncodesRow.Statement (.mflo rd) := encR_masked ..

theorem EncodesRow.mtlo (rs : RegIdx) : EncodesRow.Statement (.mtlo rs) := encR_masked ..

theorem EncodesRow.j (target : BitVec 26) : EncodesRow.Statement (.j target) := encJ_masked ..

theorem EncodesRow.jal (target : BitVec 26) : EncodesRow.Statement (.jal target) := encJ_masked ..

theorem EncodesRow.jr (rs : RegIdx) : EncodesRow.Statement (.jr rs) := encR_masked ..

theorem EncodesRow.jalr (rd rs : RegIdx) : EncodesRow.Statement (.jalr rd rs) := encR_masked ..

theorem EncodesRow.beq (rs rt : RegIdx) (imm : BitVec 16) : EncodesRow.Statement (.beq rs rt imm) := encI_masked ..

theorem EncodesRow.bne (rs rt : RegIdx) (imm : BitVec 16) : EncodesRow.Statement (.bne rs rt imm) := encI_masked ..

theorem EncodesRow.blez (rs : RegIdx) (imm : BitVec 16) : EncodesRow.Statement (.blez rs imm) := encI_masked ..

theorem EncodesRow.bgtz (rs : RegIdx) (imm : BitVec 16) : EncodesRow.Statement (.bgtz rs imm) := encI_masked ..

theorem EncodesRow.beql (rs rt : RegIdx) (imm : BitVec 16) : EncodesRow.Statement (.beql rs rt imm) := encI_masked ..

theorem EncodesRow.bnel (rs rt : RegIdx) (imm : BitVec 16) : EncodesRow.Statement (.bnel rs rt imm) := encI_masked ..

theorem EncodesRow.blezl (rs : RegIdx) (imm : BitVec 16) : EncodesRow.Statement (.blezl rs imm) := encI_masked ..

theorem EncodesRow.bgtzl (rs : RegIdx) (imm : BitVec 16) : EncodesRow.Statement (.bgtzl rs imm) := encI_masked ..

theorem EncodesRow.bltz (rs : RegIdx) (imm : BitVec 16) : EncodesRow.Statement (.bltz rs imm) := encRI_masked ..

theorem EncodesRow.bgez (rs : RegIdx) (imm : BitVec 16) : EncodesRow.Statement (.bgez rs imm) := encRI_masked ..

theorem EncodesRow.bltzl (rs : RegIdx) (imm : BitVec 16) : EncodesRow.Statement (.bltzl rs imm) := encRI_masked ..

theorem EncodesRow.bgezl (rs : RegIdx) (imm : BitVec 16) : EncodesRow.Statement (.bgezl rs imm) := encRI_masked ..

theorem EncodesRow.bltzal (rs : RegIdx) (imm : BitVec 16) : EncodesRow.Statement (.bltzal rs imm) := encRI_masked ..

theorem EncodesRow.bgezal (rs : RegIdx) (imm : BitVec 16) : EncodesRow.Statement (.bgezal rs imm) := encRI_masked ..

theorem EncodesRow.bltzall (rs : RegIdx) (imm : BitVec 16) : EncodesRow.Statement (.bltzall rs imm) := encRI_masked ..

theorem EncodesRow.bgezall (rs : RegIdx) (imm : BitVec 16) : EncodesRow.Statement (.bgezall rs imm) := encRI_masked ..

theorem EncodesRow.lb (rt base : RegIdx) (imm : BitVec 16) : EncodesRow.Statement (.lb rt base imm) := encI_masked ..

theorem EncodesRow.lbu (rt base : RegIdx) (imm : BitVec 16) : EncodesRow.Statement (.lbu rt base imm) := encI_masked
    ..

theorem EncodesRow.lh (rt base : RegIdx) (imm : BitVec 16) : EncodesRow.Statement (.lh rt base imm) := encI_masked ..

theorem EncodesRow.lhu (rt base : RegIdx) (imm : BitVec 16) : EncodesRow.Statement (.lhu rt base imm) := encI_masked
    ..

theorem EncodesRow.lw (rt base : RegIdx) (imm : BitVec 16) : EncodesRow.Statement (.lw rt base imm) := encI_masked ..

theorem EncodesRow.lwu (rt base : RegIdx) (imm : BitVec 16) : EncodesRow.Statement (.lwu rt base imm) := encI_masked
    ..

theorem EncodesRow.ld (rt base : RegIdx) (imm : BitVec 16) : EncodesRow.Statement (.ld rt base imm) := encI_masked ..

theorem EncodesRow.lwl (rt base : RegIdx) (imm : BitVec 16) : EncodesRow.Statement (.lwl rt base imm) := encI_masked
    ..

theorem EncodesRow.lwr (rt base : RegIdx) (imm : BitVec 16) : EncodesRow.Statement (.lwr rt base imm) := encI_masked
    ..

theorem EncodesRow.ldl (rt base : RegIdx) (imm : BitVec 16) : EncodesRow.Statement (.ldl rt base imm) := encI_masked
    ..

theorem EncodesRow.ldr (rt base : RegIdx) (imm : BitVec 16) : EncodesRow.Statement (.ldr rt base imm) := encI_masked
    ..

theorem EncodesRow.sb (rt base : RegIdx) (imm : BitVec 16) : EncodesRow.Statement (.sb rt base imm) := encI_masked ..

theorem EncodesRow.sh (rt base : RegIdx) (imm : BitVec 16) : EncodesRow.Statement (.sh rt base imm) := encI_masked ..

theorem EncodesRow.sw (rt base : RegIdx) (imm : BitVec 16) : EncodesRow.Statement (.sw rt base imm) := encI_masked ..

theorem EncodesRow.sd (rt base : RegIdx) (imm : BitVec 16) : EncodesRow.Statement (.sd rt base imm) := encI_masked ..

theorem EncodesRow.swl (rt base : RegIdx) (imm : BitVec 16) : EncodesRow.Statement (.swl rt base imm) := encI_masked
    ..

theorem EncodesRow.swr (rt base : RegIdx) (imm : BitVec 16) : EncodesRow.Statement (.swr rt base imm) := encI_masked
    ..

theorem EncodesRow.sdl (rt base : RegIdx) (imm : BitVec 16) : EncodesRow.Statement (.sdl rt base imm) := encI_masked
    ..

theorem EncodesRow.sdr (rt base : RegIdx) (imm : BitVec 16) : EncodesRow.Statement (.sdr rt base imm) := encI_masked
    ..

theorem EncodesRow.ll (rt base : RegIdx) (imm : BitVec 16) : EncodesRow.Statement (.ll rt base imm) := encI_masked ..

theorem EncodesRow.lld (rt base : RegIdx) (imm : BitVec 16) : EncodesRow.Statement (.lld rt base imm) := encI_masked
    ..

theorem EncodesRow.sc (rt base : RegIdx) (imm : BitVec 16) : EncodesRow.Statement (.sc rt base imm) := encI_masked ..

theorem EncodesRow.scd (rt base : RegIdx) (imm : BitVec 16) : EncodesRow.Statement (.scd rt base imm) := encI_masked
    ..

theorem EncodesRow.cache (op : BitVec 5) (base : RegIdx) (imm : BitVec 16) : EncodesRow.Statement (.cache op base
    imm) := encI_masked ..

theorem EncodesRow.sync : EncodesRow.Statement (.sync) := rfl

theorem EncodesRow.tge (rs rt : RegIdx) (code : BitVec 10) : EncodesRow.Statement (.tge rs rt code) :=
    encTrap_masked ..

theorem EncodesRow.tgeu (rs rt : RegIdx) (code : BitVec 10) : EncodesRow.Statement (.tgeu rs rt code) :=
    encTrap_masked ..

theorem EncodesRow.tlt (rs rt : RegIdx) (code : BitVec 10) : EncodesRow.Statement (.tlt rs rt code) :=
    encTrap_masked ..

theorem EncodesRow.tltu (rs rt : RegIdx) (code : BitVec 10) : EncodesRow.Statement (.tltu rs rt code) :=
    encTrap_masked ..

theorem EncodesRow.teq (rs rt : RegIdx) (code : BitVec 10) : EncodesRow.Statement (.teq rs rt code) :=
    encTrap_masked ..

theorem EncodesRow.tne (rs rt : RegIdx) (code : BitVec 10) : EncodesRow.Statement (.tne rs rt code) :=
    encTrap_masked ..

theorem EncodesRow.tgei (rs : RegIdx) (imm : BitVec 16) : EncodesRow.Statement (.tgei rs imm) := encRI_masked ..

theorem EncodesRow.tgeiu (rs : RegIdx) (imm : BitVec 16) : EncodesRow.Statement (.tgeiu rs imm) := encRI_masked ..

theorem EncodesRow.tlti (rs : RegIdx) (imm : BitVec 16) : EncodesRow.Statement (.tlti rs imm) := encRI_masked ..

theorem EncodesRow.tltiu (rs : RegIdx) (imm : BitVec 16) : EncodesRow.Statement (.tltiu rs imm) := encRI_masked ..

theorem EncodesRow.teqi (rs : RegIdx) (imm : BitVec 16) : EncodesRow.Statement (.teqi rs imm) := encRI_masked ..

theorem EncodesRow.tnei (rs : RegIdx) (imm : BitVec 16) : EncodesRow.Statement (.tnei rs imm) := encRI_masked ..

theorem EncodesRow.syscall (code : BitVec 20) : EncodesRow.Statement (.syscall code) := encCode_masked ..

theorem EncodesRow.brk (code : BitVec 20) : EncodesRow.Statement (.brk code) := encCode_masked ..

theorem EncodesRow.mfc0 (rt rd : RegIdx) : EncodesRow.Statement (.mfc0 rt rd) := encCM_masked ..

theorem EncodesRow.dmfc0 (rt rd : RegIdx) : EncodesRow.Statement (.dmfc0 rt rd) := encCM_masked ..

theorem EncodesRow.mtc0 (rt rd : RegIdx) : EncodesRow.Statement (.mtc0 rt rd) := encCM_masked ..

theorem EncodesRow.dmtc0 (rt rd : RegIdx) : EncodesRow.Statement (.dmtc0 rt rd) := encCM_masked ..

theorem EncodesRow.tlbr : EncodesRow.Statement (.tlbr) := rfl

theorem EncodesRow.tlbwi : EncodesRow.Statement (.tlbwi) := rfl

theorem EncodesRow.tlbwr : EncodesRow.Statement (.tlbwr) := rfl

theorem EncodesRow.tlbp : EncodesRow.Statement (.tlbp) := rfl

theorem EncodesRow.eret : EncodesRow.Statement (.eret) := rfl

theorem EncodesRow.mfc1 (rt fs : RegIdx) (low : BitVec 11) : EncodesRow.Statement (.mfc1 rt fs low) := encCM_masked ..

theorem EncodesRow.dmfc1 (rt fs : RegIdx) (low : BitVec 11) : EncodesRow.Statement (.dmfc1 rt fs low) :=
    encCM_masked ..

theorem EncodesRow.cfc1 (rt fs : RegIdx) (low : BitVec 11) : EncodesRow.Statement (.cfc1 rt fs low) := encCM_masked ..

theorem EncodesRow.mtc1 (rt fs : RegIdx) (low : BitVec 11) : EncodesRow.Statement (.mtc1 rt fs low) := encCM_masked ..

theorem EncodesRow.dmtc1 (rt fs : RegIdx) (low : BitVec 11) : EncodesRow.Statement (.dmtc1 rt fs low) :=
    encCM_masked ..

theorem EncodesRow.ctc1 (rt fs : RegIdx) (low : BitVec 11) : EncodesRow.Statement (.ctc1 rt fs low) := encCM_masked ..

theorem EncodesRow.bc1f (imm : BitVec 16) : EncodesRow.Statement (.bc1f imm) := encCB_masked ..

theorem EncodesRow.bc1t (imm : BitVec 16) : EncodesRow.Statement (.bc1t imm) := encCB_masked ..

theorem EncodesRow.bc1fl (imm : BitVec 16) : EncodesRow.Statement (.bc1fl imm) := encCB_masked ..

theorem EncodesRow.bc1tl (imm : BitVec 16) : EncodesRow.Statement (.bc1tl imm) := encCB_masked ..

theorem EncodesRow.lwc1 (ft base : RegIdx) (imm : BitVec 16) : EncodesRow.Statement (.lwc1 ft base imm) :=
    encI_masked ..

theorem EncodesRow.ldc1 (ft base : RegIdx) (imm : BitVec 16) : EncodesRow.Statement (.ldc1 ft base imm) :=
    encI_masked ..

theorem EncodesRow.swc1 (ft base : RegIdx) (imm : BitVec 16) : EncodesRow.Statement (.swc1 ft base imm) :=
    encI_masked ..

theorem EncodesRow.sdc1 (ft base : RegIdx) (imm : BitVec 16) : EncodesRow.Statement (.sdc1 ft base imm) :=
    encI_masked ..

theorem EncodesRow.cop1S (copFn : BitVec 21) : EncodesRow.Statement (.cop1S copFn) := encCF_masked ..

theorem EncodesRow.cop1D (copFn : BitVec 21) : EncodesRow.Statement (.cop1D copFn) := encCF_masked ..

theorem EncodesRow.cop1W (copFn : BitVec 21) : EncodesRow.Statement (.cop1W copFn) := encCF_masked ..

theorem EncodesRow.cop1L (copFn : BitVec 21) : EncodesRow.Statement (.cop1L copFn) := encCF_masked ..

end Sys2Proof.Laws
end

