-- ==== Sys2Proof/Tests/Slice0.lean ====
section
/-! SUPPORT. The model's own tests. The expected values are the spec's: the words of `test_decode_…` are written field by
field from spec/opcode_table.json, and `test_V<n>_…` is vector V<n> of spec/95_test_vectors.md (one step from its base
state). Each `witness_<Name>…` meets the hypotheses of the statement `Obligations.<Name>`. -/

namespace Sys2Proof.Tests

open Sys2Proof.Machine

set_option Elab.async false

/-- What the decoder reads from a word. -/
def read (w : Word) : Option Instr := (decode w).toOption

/-- The base state of the vectors: kernel mode in 32-bit addressing, about to fetch at 0xFFFFFFFF80001000. -/
def here : State :=
  { State.launch with
    pc := 0xFFFFFFFF80001000#64
    nextPC := 0xFFFFFFFF80001004#64
    mem := Memory.write [] 0x2000#32 .dword 0x8192A3B4C5D6E7F8#64 }

/-- `s` with `x[r] = v`. -/
def x (r : RegIdx) (v : DWord) (s : State) : State := s.writeReg r v

/-- `s` with its COP0 registers changed. -/
def c0 (f : Cop0 → Cop0) (s : State) : State := { s with cop0 := f s.cop0 }

/-- `s` with LLbit as given. -/
def link (b : Bool) (s : State) : State := { s with llBit := b }

/-- `s` with entry 7 of the TLB as V185 leaves it. -/
def entry7 (s : State) : State :=
  { s with tlb := s.tlb.set 7 ⟨true, 0, 0x200, 5, false, 3, ⟨0x124, 3, true, true⟩, ⟨0x458, 3, false, true⟩⟩ }

/-- `s` with a word at physical address 0x1000. -/
def placed (w : Word) (s : State) : State := { s with mem := s.mem.placeWord 0x1000#32 w }

/-- The next state, if there is one. -/
def reached : Result → Option State
  | .next t => some t
  | .fault _ => none
  | .refused _ => none

/-- The halt, if there is one. -/
def stopped : Result → Option Fault
  | .next _ => none
  | .fault f => some f
  | .refused _ => none

/-- One step on the word `w`. -/
def run (w : Word) (s : State) : Option State := reached (step (placed w s))

/-- The handler's address, Cause and EPC. -/
def caught (t : State) : VAddr × Word × DWord := (t.pc, t.cop0.cause, t.cop0.epc)

/-- HI and LO. -/
def hilo (t : State) : DWord × DWord := (t.hi, t.lo)

/-- The next two addresses and the delay-slot bit. -/
def control (t : State) : VAddr × VAddr × Bool := (t.pc, t.nextPC, t.delaySlot)

/-- `s` after an instruction that does nothing. -/
def walked (s : State) : State := { s with oldPC := s.pc, pc := s.nextPC, nextPC := s.nextPC + 4 }

/-- The doubleword at 0x2000. -/
def datum (t : State) : DWord := t.mem.read 0x2000#32 .dword

-- Terms the checks of WellFormed refuse.

theorem test_wellFormed_map :
    Config.mapWellFormed [⟨0, 0x800000, .ram⟩, ⟨0x1FC00000, 0x1000, .rom⟩, ⟨0x800000, 8, .device⟩] = true := by
  decide

theorem test_wellFormed_empty_region : Config.mapWellFormed [⟨0x1000, 0, .ram⟩] = false := by decide
theorem test_wellFormed_outside_space : Config.mapWellFormed [⟨0xFFFFFFF8, 16, .ram⟩] = false := by decide
theorem test_wellFormed_base_unaligned : Config.mapWellFormed [⟨4, 8, .ram⟩] = false := by decide
theorem test_wellFormed_size_unaligned : Config.mapWellFormed [⟨8, 12, .ram⟩] = false := by decide
theorem test_wellFormed_overlap : Config.mapWellFormed [⟨0, 16, .ram⟩, ⟨8, 16, .rom⟩] = false := by decide
theorem test_wellFormed_params :
    (Config.Params.withMap [⟨0, 16, .ram⟩, ⟨8, 16, .rom⟩, ⟨0x1FC00000, 0x1000, .rom⟩]).wellFormed = false := by
  decide
theorem test_wellFormed_no_boot_rom :
    (Config.Params.withMap [⟨0, 0x20000000, .ram⟩]).wellFormed = false
      ∧ (Config.Params.withMap [⟨0, 0x1FC00000, .ram⟩, ⟨0x1FC00008, 0x1000, .rom⟩]).wellFormed = false := by
  decide
theorem test_wellFormed_launch : State.reset.params.wellFormed = true := by decide +kernel

-- Decoding.

/-- Every row of class alu, each field written out. -/
theorem test_decode_alu :
    read 0b000000_00001_00010_00011_00000_100000#32 = some (.add 3 1 2)
    ∧ read 0b000000_00001_00010_00011_00000_100001#32 = some (.addu 3 1 2)
    ∧ read 0b000000_00001_00010_00011_00000_100010#32 = some (.sub 3 1 2)
    ∧ read 0b000000_00001_00010_00011_00000_100011#32 = some (.subu 3 1 2)
    ∧ read 0b001000_00001_00010_1000000000000001#32 = some (.addi 2 1 0x8001)
    ∧ read 0b001001_00001_00010_1000000000000001#32 = some (.addiu 2 1 0x8001)
    ∧ read 0b000000_00001_00010_00011_00000_101100#32 = some (.dadd 3 1 2)
    ∧ read 0b000000_00001_00010_00011_00000_101101#32 = some (.daddu 3 1 2)
    ∧ read 0b000000_00001_00010_00011_00000_101110#32 = some (.dsub 3 1 2)
    ∧ read 0b000000_00001_00010_00011_00000_101111#32 = some (.dsubu 3 1 2)
    ∧ read 0b011000_00001_00010_1000000000000001#32 = some (.daddi 2 1 0x8001)
    ∧ read 0b011001_00001_00010_1000000000000001#32 = some (.daddiu 2 1 0x8001)
    ∧ read 0b000000_00001_00010_00011_00000_100100#32 = some (.and 3 1 2)
    ∧ read 0b000000_00001_00010_00011_00000_100101#32 = some (.or 3 1 2)
    ∧ read 0b000000_00001_00010_00011_00000_100110#32 = some (.xor 3 1 2)
    ∧ read 0b000000_00001_00010_00011_00000_100111#32 = some (.nor 3 1 2)
    ∧ read 0b001100_00001_00010_1000000000000001#32 = some (.andi 2 1 0x8001)
    ∧ read 0b001101_00001_00010_1000000000000001#32 = some (.ori 2 1 0x8001)
    ∧ read 0b001110_00001_00010_1000000000000001#32 = some (.xori 2 1 0x8001)
    ∧ read 0b001111_00000_00010_1000000000000001#32 = some (.lui 2 0x8001)
    ∧ read 0b000000_00001_00010_00011_00000_101010#32 = some (.slt 3 1 2)
    ∧ read 0b000000_00001_00010_00011_00000_101011#32 = some (.sltu 3 1 2)
    ∧ read 0b001010_00001_00010_1000000000000001#32 = some (.slti 2 1 0x8001)
    ∧ read 0b001011_00001_00010_1000000000000001#32 = some (.sltiu 2 1 0x8001)
    ∧ read 0b000000_00000_00010_00011_11111_000000#32 = some (.sll 3 2 31)
    ∧ read 0b000000_00000_00010_00011_11111_000010#32 = some (.srl 3 2 31)
    ∧ read 0b000000_00000_00010_00011_11111_000011#32 = some (.sra 3 2 31)
    ∧ read 0b000000_00001_00010_00011_00000_000100#32 = some (.sllv 3 2 1)
    ∧ read 0b000000_00001_00010_00011_00000_000110#32 = some (.srlv 3 2 1)
    ∧ read 0b000000_00001_00010_00011_00000_000111#32 = some (.srav 3 2 1)
    ∧ read 0b000000_00000_00010_00011_11111_111000#32 = some (.dsll 3 2 31)
    ∧ read 0b000000_00000_00010_00011_11111_111010#32 = some (.dsrl 3 2 31)
    ∧ read 0b000000_00000_00010_00011_11111_111011#32 = some (.dsra 3 2 31)
    ∧ read 0b000000_00001_00010_00011_00000_010100#32 = some (.dsllv 3 2 1)
    ∧ read 0b000000_00001_00010_00011_00000_010110#32 = some (.dsrlv 3 2 1)
    ∧ read 0b000000_00001_00010_00011_00000_010111#32 = some (.dsrav 3 2 1)
    ∧ read 0b000000_00000_00010_00011_11111_111100#32 = some (.dsll32 3 2 31)
    ∧ read 0b000000_00000_00010_00011_11111_111110#32 = some (.dsrl32 3 2 31)
    ∧ read 0b000000_00000_00010_00011_11111_111111#32 = some (.dsra32 3 2 31) := by
  decide +kernel

/-- Every row of class muldiv, each field written out. -/
theorem test_decode_muldiv :
    read 0b000000_00001_00010_0000000000_011000#32 = some (.mult 1 2)
    ∧ read 0b000000_00001_00010_0000000000_011001#32 = some (.multu 1 2)
    ∧ read 0b000000_00001_00010_0000000000_011010#32 = some (.div 1 2)
    ∧ read 0b000000_00001_00010_0000000000_011011#32 = some (.divu 1 2)
    ∧ read 0b000000_00001_00010_0000000000_011100#32 = some (.dmult 1 2)
    ∧ read 0b000000_00001_00010_0000000000_011101#32 = some (.dmultu 1 2)
    ∧ read 0b000000_00001_00010_0000000000_011110#32 = some (.ddiv 1 2)
    ∧ read 0b000000_00001_00010_0000000000_011111#32 = some (.ddivu 1 2)
    ∧ read 0b000000_0000000000_00011_00000_010000#32 = some (.mfhi 3)
    ∧ read 0b000000_00001_000000000000000_010001#32 = some (.mthi 1)
    ∧ read 0b000000_0000000000_00011_00000_010010#32 = some (.mflo 3)
    ∧ read 0b000000_00001_000000000000000_010011#32 = some (.mtlo 1) := by
  decide +kernel

/-- Every row of class jump, each field written out. -/
theorem test_decode_jump :
    read 0b000010_10000000000000000000000011#32 = some (.j 0x2000003)
    ∧ read 0b000011_10000000000000000000000011#32 = some (.jal 0x2000003)
    ∧ read 0b000000_00001_000000000000000_001000#32 = some (.jr 1)
    ∧ read 0b000000_00001_00000_00011_00000_001001#32 = some (.jalr 3 1) := by
  decide +kernel

/-- Every row of class branch, each field written out. -/
theorem test_decode_branch :
    read 0b000100_00001_00010_1000000000000001#32 = some (.beq 1 2 0x8001)
    ∧ read 0b000101_00001_00010_1000000000000001#32 = some (.bne 1 2 0x8001)
    ∧ read 0b000110_00001_00000_1000000000000001#32 = some (.blez 1 0x8001)
    ∧ read 0b000111_00001_00000_1000000000000001#32 = some (.bgtz 1 0x8001)
    ∧ read 0b010100_00001_00010_1000000000000001#32 = some (.beql 1 2 0x8001)
    ∧ read 0b010101_00001_00010_1000000000000001#32 = some (.bnel 1 2 0x8001)
    ∧ read 0b010110_00001_00000_1000000000000001#32 = some (.blezl 1 0x8001)
    ∧ read 0b010111_00001_00000_1000000000000001#32 = some (.bgtzl 1 0x8001)
    ∧ read 0b000001_00001_00000_1000000000000001#32 = some (.bltz 1 0x8001)
    ∧ read 0b000001_00001_00001_1000000000000001#32 = some (.bgez 1 0x8001)
    ∧ read 0b000001_00001_00010_1000000000000001#32 = some (.bltzl 1 0x8001)
    ∧ read 0b000001_00001_00011_1000000000000001#32 = some (.bgezl 1 0x8001)
    ∧ read 0b000001_00001_10000_1000000000000001#32 = some (.bltzal 1 0x8001)
    ∧ read 0b000001_00001_10001_1000000000000001#32 = some (.bgezal 1 0x8001)
    ∧ read 0b000001_00001_10010_1000000000000001#32 = some (.bltzall 1 0x8001)
    ∧ read 0b000001_00001_10011_1000000000000001#32 = some (.bgezall 1 0x8001) := by
  decide +kernel

/-- Every row of class load, each field written out. -/
theorem test_decode_load :
    read 0b100000_11101_00010_1000000000000001#32 = some (.lb 2 29 0x8001)
    ∧ read 0b100100_11101_00010_1000000000000001#32 = some (.lbu 2 29 0x8001)
    ∧ read 0b100001_11101_00010_1000000000000001#32 = some (.lh 2 29 0x8001)
    ∧ read 0b100101_11101_00010_1000000000000001#32 = some (.lhu 2 29 0x8001)
    ∧ read 0b100011_11101_00010_1000000000000001#32 = some (.lw 2 29 0x8001)
    ∧ read 0b100111_11101_00010_1000000000000001#32 = some (.lwu 2 29 0x8001)
    ∧ read 0b110111_11101_00010_1000000000000001#32 = some (.ld 2 29 0x8001)
    ∧ read 0b100010_11101_00010_1000000000000001#32 = some (.lwl 2 29 0x8001)
    ∧ read 0b100110_11101_00010_1000000000000001#32 = some (.lwr 2 29 0x8001)
    ∧ read 0b011010_11101_00010_1000000000000001#32 = some (.ldl 2 29 0x8001)
    ∧ read 0b011011_11101_00010_1000000000000001#32 = some (.ldr 2 29 0x8001) := by
  decide +kernel

/-- Every row of class store, each field written out. -/
theorem test_decode_store :
    read 0b101000_11101_00010_1000000000000001#32 = some (.sb 2 29 0x8001)
    ∧ read 0b101001_11101_00010_1000000000000001#32 = some (.sh 2 29 0x8001)
    ∧ read 0b101011_11101_00010_1000000000000001#32 = some (.sw 2 29 0x8001)
    ∧ read 0b111111_11101_00010_1000000000000001#32 = some (.sd 2 29 0x8001)
    ∧ read 0b101010_11101_00010_1000000000000001#32 = some (.swl 2 29 0x8001)
    ∧ read 0b101110_11101_00010_1000000000000001#32 = some (.swr 2 29 0x8001)
    ∧ read 0b101100_11101_00010_1000000000000001#32 = some (.sdl 2 29 0x8001)
    ∧ read 0b101101_11101_00010_1000000000000001#32 = some (.sdr 2 29 0x8001) := by
  decide +kernel

/-- Every row of class llsc, each field written out. -/
theorem test_decode_llsc :
    read 0b110000_11101_00010_1000000000000001#32 = some (.ll 2 29 0x8001)
    ∧ read 0b110100_11101_00010_1000000000000001#32 = some (.lld 2 29 0x8001)
    ∧ read 0b111000_11101_00010_1000000000000001#32 = some (.sc 2 29 0x8001)
    ∧ read 0b111100_11101_00010_1000000000000001#32 = some (.scd 2 29 0x8001) := by
  decide +kernel

/-- Every row of class cacheop, each field written out. -/
theorem test_decode_cacheop :
    read 0b101111_11101_00010_1000000000000001#32 = some (.cache 2 29 0x8001) := by
  decide +kernel

/-- Every row of class sync, each field written out. -/
theorem test_decode_sync :
    read 0b000000_00000000000000000000_001111#32 = some .sync := by
  decide +kernel

/-- Every row of class trap, each field written out. -/
theorem test_decode_trap :
    read 0b000000_00001_00010_1010100101_110000#32 = some (.tge 1 2 0x2A5)
    ∧ read 0b000000_00001_00010_1010100101_110001#32 = some (.tgeu 1 2 0x2A5)
    ∧ read 0b000000_00001_00010_1010100101_110010#32 = some (.tlt 1 2 0x2A5)
    ∧ read 0b000000_00001_00010_1010100101_110011#32 = some (.tltu 1 2 0x2A5)
    ∧ read 0b000000_00001_00010_1010100101_110100#32 = some (.teq 1 2 0x2A5)
    ∧ read 0b000000_00001_00010_1010100101_110110#32 = some (.tne 1 2 0x2A5)
    ∧ read 0b000001_00001_01000_1000000000000001#32 = some (.tgei 1 0x8001)
    ∧ read 0b000001_00001_01001_1000000000000001#32 = some (.tgeiu 1 0x8001)
    ∧ read 0b000001_00001_01010_1000000000000001#32 = some (.tlti 1 0x8001)
    ∧ read 0b000001_00001_01011_1000000000000001#32 = some (.tltiu 1 0x8001)
    ∧ read 0b000001_00001_01100_1000000000000001#32 = some (.teqi 1 0x8001)
    ∧ read 0b000001_00001_01110_1000000000000001#32 = some (.tnei 1 0x8001) := by
  decide +kernel

/-- Every row of class system, each field written out. -/
theorem test_decode_system :
    read 0b000000_10000001001010100101_001100#32 = some (.syscall 0x812A5)
    ∧ read 0b000000_10000001001010100101_001101#32 = some (.brk 0x812A5) := by
  decide +kernel

/-- Every row of class cop0, each field written out. -/
theorem test_decode_cop0 :
    read 0b01000000000_00010_00011_00000000000#32 = some (.mfc0 2 3)
    ∧ read 0b01000000001_00010_00011_00000000000#32 = some (.dmfc0 2 3)
    ∧ read 0b01000000100_00010_00011_00000000000#32 = some (.mtc0 2 3)
    ∧ read 0b01000000101_00010_00011_00000000000#32 = some (.dmtc0 2 3)
    ∧ read 0b0100001_0000000000000000000_000001#32 = some .tlbr
    ∧ read 0b0100001_0000000000000000000_000010#32 = some .tlbwi
    ∧ read 0b0100001_0000000000000000000_000110#32 = some .tlbwr
    ∧ read 0b0100001_0000000000000000000_001000#32 = some .tlbp
    ∧ read 0b0100001_0000000000000000000_011000#32 = some .eret := by
  decide +kernel

/-- Every row of class fpu, each field written out. -/
theorem test_decode_fpu :
    read 0b01000100000_00010_10001_00000000000#32 = some (.mfc1 2 17 0)
    ∧ read 0b01000100001_00010_10001_00000000000#32 = some (.dmfc1 2 17 0)
    ∧ read 0b01000100010_00010_10001_00000000000#32 = some (.cfc1 2 17 0)
    ∧ read 0b01000100100_00010_10001_00000000000#32 = some (.mtc1 2 17 0)
    ∧ read 0b01000100101_00010_10001_00000000000#32 = some (.dmtc1 2 17 0)
    ∧ read 0b01000100110_00010_10001_00000000000#32 = some (.ctc1 2 17 0)
    ∧ read 0b01000110000_100001111100000000011#32 = some (.cop1S 0x10F803)
    ∧ read 0b01000110001_100001111100000000011#32 = some (.cop1D 0x10F803)
    ∧ read 0b01000110100_100001111100000000011#32 = some (.cop1W 0x10F803)
    ∧ read 0b01000110101_100001111100000000011#32 = some (.cop1L 0x10F803) := by
  decide +kernel

/-- Every row of class fpu_branch, each field written out. -/
theorem test_decode_fpu_branch :
    read 0b0100010100000000_1000000000000001#32 = some (.bc1f 0x8001)
    ∧ read 0b0100010100000001_1000000000000001#32 = some (.bc1t 0x8001)
    ∧ read 0b0100010100000010_1000000000000001#32 = some (.bc1fl 0x8001)
    ∧ read 0b0100010100000011_1000000000000001#32 = some (.bc1tl 0x8001) := by
  decide +kernel

/-- Every row of class fpu_mem, each field written out. -/
theorem test_decode_fpu_mem :
    read 0b110001_11101_11110_1000000000000001#32 = some (.lwc1 30 29 0x8001)
    ∧ read 0b110101_11101_11110_1000000000000001#32 = some (.ldc1 30 29 0x8001)
    ∧ read 0b111001_11101_11110_1000000000000001#32 = some (.swc1 30 29 0x8001)
    ∧ read 0b111101_11101_11110_1000000000000001#32 = some (.sdc1 30 29 0x8001) := by
  decide +kernel

-- One step, by the vectors of the spec.

theorem test_V2_add :
    (run 0x221820#32 (x 2 0x1#64 (x 1 0x7FFFFFFF#64 here))).map caught =
      some (0xFFFFFFFF80000180#64, 0x30#32, 0xFFFFFFFF80001000#64) := by
  decide +kernel
theorem test_V3_add :
    (run 0x221820#32 (x 3 0x55#64 (x 2 0x1#64 (x 1 0xFFFFFFFFFFFFFFFF#64 here)))).map (fun t => t.readReg 3) =
      some 0x0#64 := by
  decide +kernel
theorem test_V5_addu :
    (run 0x221821#32 (x 2 0x1#64 (x 1 0x7FFFFFFF#64 here))).map (fun t => t.readReg 3) =
      some 0xFFFFFFFF80000000#64 := by
  decide +kernel
theorem test_V12_addu :
    (run 0x221821#32 (x 2 0x1#64 (x 1 0x100000001#64 here))).map (fun t => t.readReg 3) = some 0x2#64 := by
  decide +kernel
theorem test_V6_sub :
    (run 0x221822#32 (x 2 0x1#64 (x 1 0xFFFFFFFF80000000#64 here))).map caught =
      some (0xFFFFFFFF80000180#64, 0x30#32, 0xFFFFFFFF80001000#64) := by
  decide +kernel
theorem test_V7_sub :
    (run 0x221822#32 (x 2 0x5#64 (x 1 0x3#64 here))).map (fun t => t.readReg 3) = some 0xFFFFFFFFFFFFFFFE#64 := by
  decide +kernel
theorem test_V8_subu :
    (run 0x221823#32 (x 2 0x1#64 (x 1 0xFFFFFFFF80000000#64 here))).map (fun t => t.readReg 3) =
      some 0x7FFFFFFF#64 := by
  decide +kernel
theorem test_V9_addi :
    (run 0x2023FFFF#32 (x 1 0x0#64 here)).map (fun t => t.readReg 3) = some 0xFFFFFFFFFFFFFFFF#64 := by
  decide +kernel
theorem test_V10_addi :
    (run 0x20230001#32 (x 1 0x7FFFFFFF#64 here)).map caught =
      some (0xFFFFFFFF80000180#64, 0x30#32, 0xFFFFFFFF80001000#64) := by
  decide +kernel
theorem test_V11_addiu :
    (run 0x24237FFF#32 (x 1 0x7FFFFFFF#64 here)).map (fun t => t.readReg 3) = some 0xFFFFFFFF80007FFE#64 := by
  decide +kernel
theorem test_V13_dadd :
    (run 0x22182C#32 (x 2 0x1#64 (x 1 0x7FFFFFFFFFFFFFFF#64 here))).map caught =
      some (0xFFFFFFFF80000180#64, 0x30#32, 0xFFFFFFFF80001000#64) := by
  decide +kernel
theorem test_V14_dadd :
    (run 0x22182C#32 (x 2 0x1#64 (x 1 0x7FFFFFFF#64 here))).map (fun t => t.readReg 3) = some 0x80000000#64 := by
  decide +kernel
theorem test_V15_daddu :
    (run 0x22182D#32 (x 2 0x1#64 (x 1 0x7FFFFFFFFFFFFFFF#64 here))).map (fun t => t.readReg 3) =
      some 0x8000000000000000#64 := by
  decide +kernel
theorem test_V16_dsub :
    (run 0x22182E#32 (x 2 0x1#64 (x 1 0x8000000000000000#64 here))).map caught =
      some (0xFFFFFFFF80000180#64, 0x30#32, 0xFFFFFFFF80001000#64) := by
  decide +kernel
theorem test_V17_dsubu :
    (run 0x22182F#32 (x 2 0x1#64 (x 1 0x0#64 here))).map (fun t => t.readReg 3) = some 0xFFFFFFFFFFFFFFFF#64 := by
  decide +kernel
theorem test_V18_daddi :
    (run 0x60238000#32 (x 1 0x8000000000000000#64 here)).map caught =
      some (0xFFFFFFFF80000180#64, 0x30#32, 0xFFFFFFFF80001000#64) := by
  decide +kernel
theorem test_V19_daddiu :
    (run 0x64238000#32 (x 1 0x8000000000000000#64 here)).map (fun t => t.readReg 3) = some 0x7FFFFFFFFFFF8000#64 := by
  decide +kernel
theorem test_V20_and :
    (run 0x221824#32 (x 2 0xFF00FF00FF00FF0#64 (x 1 0xFF00FF00FF00FF00#64 here))).map (fun t => t.readReg 3) =
      some 0xF000F000F000F00#64 := by
  decide +kernel
theorem test_V21_or :
    (run 0x221825#32 (x 2 0xFF00FF00FF00FF0#64 (x 1 0xFF00FF00FF00FF00#64 here))).map (fun t => t.readReg 3) =
      some 0xFFF0FFF0FFF0FFF0#64 := by
  decide +kernel
theorem test_V22_xor :
    (run 0x221826#32 (x 2 0xFF00FF00FF00FF0#64 (x 1 0xFF00FF00FF00FF00#64 here))).map (fun t => t.readReg 3) =
      some 0xF0F0F0F0F0F0F0F0#64 := by
  decide +kernel
theorem test_V23_nor :
    (run 0x221827#32 (x 2 0xFF00FF00FF00FF0#64 (x 1 0xFF00FF00FF00FF00#64 here))).map (fun t => t.readReg 3) =
      some 0xF000F000F000F#64 := by
  decide +kernel
theorem test_V24_andi :
    (run 0x3023FFFF#32 (x 1 0xFFFFFFFFFFFFFFFF#64 here)).map (fun t => t.readReg 3) = some 0xFFFF#64 := by
  decide +kernel
theorem test_V25_ori :
    (run 0x34238000#32 (x 1 0x0#64 here)).map (fun t => t.readReg 3) = some 0x8000#64 := by
  decide +kernel
theorem test_V26_xori :
    (run 0x3823FFFF#32 (x 1 0xFFFFFFFFFFFFFFFF#64 here)).map (fun t => t.readReg 3) = some 0xFFFFFFFFFFFF0000#64 := by
  decide +kernel
theorem test_V27_lui :
    (run 0x3C038000#32 here).map (fun t => t.readReg 3) = some 0xFFFFFFFF80000000#64 := by
  decide +kernel
theorem test_V28_lui : (run 0x3C037FFF#32 here).map (fun t => t.readReg 3) = some 0x7FFF0000#64 := by decide +kernel
theorem test_V29_slt :
    (run 0x22182A#32 (x 2 0x1#64 (x 1 0xFFFFFFFFFFFFFFFF#64 here))).map (fun t => t.readReg 3) = some 0x1#64 := by
  decide +kernel
theorem test_V30_sltu :
    (run 0x22182B#32 (x 3 0x9#64 (x 2 0x1#64 (x 1 0xFFFFFFFFFFFFFFFF#64 here)))).map (fun t => t.readReg 3) =
      some 0x0#64 := by
  decide +kernel
theorem test_V31_slti :
    (run 0x2823FFFF#32 (x 1 0xFFFFFFFFFFFFFFFE#64 here)).map (fun t => t.readReg 3) = some 0x1#64 := by
  decide +kernel
theorem test_V32_sltiu :
    (run 0x2C23FFFF#32 (x 1 0x5#64 here)).map (fun t => t.readReg 3) = some 0x1#64 := by
  decide +kernel
theorem test_V33_sll :
    (run 0x21FC0#32 (x 2 0x1#64 here)).map (fun t => t.readReg 3) = some 0xFFFFFFFF80000000#64 := by
  decide +kernel
theorem test_V34_sll :
    run 0x0#32 here =
      some (placed 0x0#32 (walked here)) := by
  decide +kernel
theorem test_V35_srl :
    (run 0x21842#32 (x 2 0xFFFFFFFF80000000#64 here)).map (fun t => t.readReg 3) = some 0x40000000#64 := by
  decide +kernel
theorem test_V36_srl :
    (run 0x21802#32 (x 2 0x180000000#64 here)).map (fun t => t.readReg 3) = some 0xFFFFFFFF80000000#64 := by
  decide +kernel
theorem test_V37_sra :
    (run 0x21903#32 (x 2 0xFFFFFFFF80000000#64 here)).map (fun t => t.readReg 3) = some 0xFFFFFFFFF8000000#64 := by
  decide +kernel
theorem test_V38_sra :
    (run 0x21903#32 (x 2 0x180000000#64 here)).map (fun t => t.readReg 3) = some 0x18000000#64 := by
  decide +kernel
theorem test_V39_sllv :
    (run 0x221804#32 (x 2 0x1#64 (x 1 0x21#64 here))).map (fun t => t.readReg 3) = some 0x2#64 := by
  decide +kernel
theorem test_V40_srlv :
    (run 0x221806#32 (x 2 0xFFFFFFFFF0000000#64 (x 1 0x4#64 here))).map (fun t => t.readReg 3) =
      some 0xF000000#64 := by
  decide +kernel
theorem test_V41_srav :
    (run 0x221807#32 (x 2 0xFFFFFFFFF0000000#64 (x 1 0x24#64 here))).map (fun t => t.readReg 3) =
      some 0xFFFFFFFFFF000000#64 := by
  decide +kernel
theorem test_V42_dsll :
    (run 0x21FF8#32 (x 2 0x3#64 here)).map (fun t => t.readReg 3) = some 0x180000000#64 := by
  decide +kernel
theorem test_V43_dsrl :
    (run 0x2187A#32 (x 2 0x8000000000000001#64 here)).map (fun t => t.readReg 3) = some 0x4000000000000000#64 := by
  decide +kernel
theorem test_V44_dsra :
    (run 0x2187B#32 (x 2 0x8000000000000001#64 here)).map (fun t => t.readReg 3) = some 0xC000000000000000#64 := by
  decide +kernel
theorem test_V45_dsllv :
    (run 0x221814#32 (x 2 0x1#64 (x 1 0x41#64 here))).map (fun t => t.readReg 3) = some 0x2#64 := by
  decide +kernel
theorem test_V46_dsrlv :
    (run 0x221816#32 (x 2 0x8000000000000000#64 (x 1 0x3F#64 here))).map (fun t => t.readReg 3) = some 0x1#64 := by
  decide +kernel
theorem test_V47_dsrav :
    (run 0x221817#32 (x 2 0x8000000000000000#64 (x 1 0x3F#64 here))).map (fun t => t.readReg 3) =
      some 0xFFFFFFFFFFFFFFFF#64 := by
  decide +kernel
theorem test_V48_dsll32 :
    (run 0x2183C#32 (x 2 0xFFFFFFFF#64 here)).map (fun t => t.readReg 3) = some 0xFFFFFFFF00000000#64 := by
  decide +kernel
theorem test_V49_dsrl32 :
    (run 0x21FFE#32 (x 2 0x8000000000000000#64 here)).map (fun t => t.readReg 3) = some 0x1#64 := by
  decide +kernel
theorem test_V50_dsra32 :
    (run 0x2183F#32 (x 2 0x8000000000000000#64 here)).map (fun t => t.readReg 3) = some 0xFFFFFFFF80000000#64 := by
  decide +kernel
theorem test_V54_mult :
    (run 0x220018#32 (x 2 0xFFFFFFFF80000000#64 (x 1 0xFFFFFFFF80000000#64 here))).map State.hi =
      some 0x40000000#64 := by
  decide +kernel
theorem test_V55_mult :
    (run 0x220018#32 (x 2 0x8000#64 (x 1 0x10000#64 here))).map State.lo = some 0xFFFFFFFF80000000#64 := by
  decide +kernel
theorem test_V56_multu :
    (run 0x220019#32 (x 2 0xFFFFFFFFFFFFFFFF#64 (x 1 0xFFFFFFFFFFFFFFFF#64 here))).map hilo =
      some (0xFFFFFFFFFFFFFFFE#64, 0x1#64) := by
  decide +kernel
theorem test_V57_dmult :
    (run 0x22001C#32 (x 2 0x2#64 (x 1 0xFFFFFFFFFFFFFFFF#64 here))).map hilo =
      some (0xFFFFFFFFFFFFFFFF#64, 0xFFFFFFFFFFFFFFFE#64) := by
  decide +kernel
theorem test_V58_dmult :
    (run 0x22001C#32 (x 2 0x8000000000000000#64 (x 1 0x8000000000000000#64 here))).map State.hi =
      some 0x4000000000000000#64 := by
  decide +kernel
theorem test_V59_dmultu :
    (run 0x22001D#32 (x 2 0xFFFFFFFFFFFFFFFF#64 (x 1 0xFFFFFFFFFFFFFFFF#64 here))).map hilo =
      some (0xFFFFFFFFFFFFFFFE#64, 0x1#64) := by
  decide +kernel
theorem test_V61_div :
    (run 0x22001A#32 (x 2 0x2#64 (x 1 0xFFFFFFFFFFFFFFF9#64 here))).map hilo =
      some (0xFFFFFFFFFFFFFFFF#64, 0xFFFFFFFFFFFFFFFD#64) := by
  decide +kernel
theorem test_V63_div :
    (run 0x22001A#32 (x 2 0x0#64 (x 1 0xFFFFFFFFFFFFFFFB#64 here))).map hilo =
      some (0xFFFFFFFFFFFFFFFB#64, 0x1#64) := by
  decide +kernel
theorem test_V66_divu :
    (run 0x22001B#32 (x 2 0x2#64 (x 1 0xFFFFFFFF80000000#64 here))).map State.lo = some 0x40000000#64 := by
  decide +kernel
theorem test_V67_divu :
    (run 0x22001B#32 (x 2 0x0#64 (x 1 0xFFFFFFFFFFFFFFFB#64 here))).map hilo =
      some (0xFFFFFFFFFFFFFFFB#64, 0xFFFFFFFFFFFFFFFF#64) := by
  decide +kernel
theorem test_V68_ddiv :
    (run 0x22001E#32 (x 2 0x2#64 (x 1 0xFFFFFFFFFFFFFFF9#64 here))).map hilo =
      some (0xFFFFFFFFFFFFFFFF#64, 0xFFFFFFFFFFFFFFFD#64) := by
  decide +kernel
theorem test_V69_ddiv :
    (run 0x22001E#32 { (x 2 0xFFFFFFFFFFFFFFFF#64 (x 1 0x8000000000000000#64 here)) with hi := 0x7#64 }).map hilo =
      some (0x0#64, 0x8000000000000000#64) := by
  decide +kernel
theorem test_V71_ddivu :
    (run 0x22001F#32 (x 2 0x10#64 (x 1 0xFFFFFFFFFFFFFFFF#64 here))).map hilo =
      some (0xF#64, 0xFFFFFFFFFFFFFFF#64) := by
  decide +kernel
theorem test_V72_ddivu :
    (run 0x22001F#32 (x 2 0x0#64 (x 1 0x9#64 here))).map hilo = some (0x9#64, 0xFFFFFFFFFFFFFFFF#64) := by
  decide +kernel
theorem test_V73_mfhi :
    (run 0x1810#32 { here with hi := 0x1122334455667788#64 }).map (fun t => t.readReg 3) =
      some 0x1122334455667788#64 := by
  decide +kernel
theorem test_V74_mflo :
    (run 0x1812#32 { here with lo := 0x1122334455667788#64 }).map (fun t => t.readReg 3) =
      some 0x1122334455667788#64 := by
  decide +kernel
theorem test_V75_mthi :
    (run 0x200011#32 (x 1 0x8000000000000001#64 here)).map State.hi = some 0x8000000000000001#64 := by
  decide +kernel
theorem test_V76_mtlo :
    (run 0x200013#32 (x 1 0x8000000000000001#64 here)).map State.lo = some 0x8000000000000001#64 := by
  decide +kernel
theorem test_V77_beq :
    (run 0x10220004#32 (x 2 0x9#64 (x 1 0x9#64 here))).map control =
      some (0xFFFFFFFF80001004#64, 0xFFFFFFFF80001014#64, true) := by
  decide +kernel
theorem test_V79_beq :
    (run 0x1000FFFF#32 here).map control = some (0xFFFFFFFF80001004#64, 0xFFFFFFFF80001000#64, true) := by
  decide +kernel
theorem test_V80_bne :
    (run 0x1422FFFC#32 (x 2 0x8#64 (x 1 0x9#64 here))).map control =
      some (0xFFFFFFFF80001004#64, 0xFFFFFFFF80000FF4#64, true) := by
  decide +kernel
theorem test_V81_blez :
    (run 0x18200002#32 (x 1 0x0#64 here)).map control =
      some (0xFFFFFFFF80001004#64, 0xFFFFFFFF8000100C#64, true) := by
  decide +kernel
theorem test_V82_bgtz :
    (run 0x1C200002#32 (x 1 0x0#64 here)).map control =
      some (0xFFFFFFFF80001004#64, 0xFFFFFFFF80001008#64, true) := by
  decide +kernel
theorem test_V83_bltz :
    (run 0x4200002#32 (x 1 0x8000000000000000#64 here)).map control =
      some (0xFFFFFFFF80001004#64, 0xFFFFFFFF8000100C#64, true) := by
  decide +kernel
theorem test_V84_bgez :
    (run 0x4210002#32 (x 1 0x80000000#64 here)).map control =
      some (0xFFFFFFFF80001004#64, 0xFFFFFFFF8000100C#64, true) := by
  decide +kernel
theorem test_V85_bltzal :
    (run 0x4300002#32 (x 1 0x1#64 here)).map (fun t => (t.readReg 31, control t)) =
      some (0xFFFFFFFF80001008#64, 0xFFFFFFFF80001004#64, 0xFFFFFFFF80001008#64, true) := by
  decide +kernel
theorem test_V86_bgezal :
    (run 0x4110002#32 here).map (fun t => (t.readReg 31, control t)) =
      some (0xFFFFFFFF80001008#64, 0xFFFFFFFF80001004#64, 0xFFFFFFFF8000100C#64, true) := by
  decide +kernel
theorem test_V87_beql :
    (run 0x50220004#32 (x 2 0x9#64 (x 1 0x9#64 here))).map control =
      some (0xFFFFFFFF80001004#64, 0xFFFFFFFF80001014#64, true) := by
  decide +kernel
theorem test_V88_beql :
    (run 0x50220004#32 (x 2 0x8#64 (x 1 0x9#64 here))).map control =
      some (0xFFFFFFFF80001008#64, 0xFFFFFFFF8000100C#64, false) := by
  decide +kernel
theorem test_V89_bnel :
    (run 0x54220004#32 (x 2 0x9#64 (x 1 0x9#64 here))).map control =
      some (0xFFFFFFFF80001008#64, 0xFFFFFFFF8000100C#64, false) := by
  decide +kernel
theorem test_V90_bltzall :
    (run 0x4320002#32 (x 1 0x1#64 here)).map (fun t => (t.readReg 31, control t)) =
      some (0xFFFFFFFF80001008#64, 0xFFFFFFFF80001008#64, 0xFFFFFFFF8000100C#64, false) := by
  decide +kernel
theorem test_V91_j :
    (run 0x8000800#32 here).map control = some (0xFFFFFFFF80001004#64, 0xFFFFFFFF80002000#64, true) := by
  decide +kernel
theorem test_V92_jal :
    (run 0xFFFFFFF#32 here).map (fun t => (t.readReg 31, control t)) =
      some (0xFFFFFFFF80001008#64, 0xFFFFFFFF80001004#64, 0xFFFFFFFF8FFFFFFC#64, true) := by
  decide +kernel
theorem test_V93_jr :
    (run 0x200008#32 (x 1 0xFFFFFFFF80002000#64 here)).map control =
      some (0xFFFFFFFF80001004#64, 0xFFFFFFFF80002000#64, true) := by
  decide +kernel
theorem test_V96_jalr :
    (run 0x200809#32 (x 1 0xFFFFFFFF80002000#64 here)).map (fun t => (t.readReg 1, control t)) =
      some (0xFFFFFFFF80001008#64, 0xFFFFFFFF80001004#64, 0xFFFFFFFF80002000#64, true) := by
  decide +kernel
theorem test_V97_lb :
    (run 0x80230000#32 (x 1 0xFFFFFFFF80002000#64 here)).map (fun t => t.readReg 3) = some 0xFFFFFFFFFFFFFF81#64 := by
  decide +kernel
theorem test_V99_lb :
    (run 0x80230007#32 (x 1 0xFFFFFFFF80002000#64 here)).map (fun t => t.readReg 3) = some 0xFFFFFFFFFFFFFFF8#64 := by
  decide +kernel
theorem test_V98_lbu :
    (run 0x90230000#32 (x 1 0xFFFFFFFF80002000#64 here)).map (fun t => t.readReg 3) = some 0x81#64 := by
  decide +kernel
theorem test_V100_lh :
    (run 0x84230002#32 (x 1 0xFFFFFFFF80002000#64 here)).map (fun t => t.readReg 3) = some 0xFFFFFFFFFFFFA3B4#64 := by
  decide +kernel
theorem test_V107_lh :
    (run 0x84230001#32 (x 1 0xFFFFFFFF80002000#64 here)).map caught =
      some (0xFFFFFFFF80000180#64, 0x10#32, 0xFFFFFFFF80001000#64) := by
  decide +kernel
theorem test_V101_lhu :
    (run 0x94230002#32 (x 1 0xFFFFFFFF80002000#64 here)).map (fun t => t.readReg 3) = some 0xA3B4#64 := by
  decide +kernel
theorem test_V104_lw :
    (run 0x8C230004#32 (x 1 0xFFFFFFFF80002000#64 here)).map (fun t => t.readReg 3) = some 0xFFFFFFFFC5D6E7F8#64 := by
  decide +kernel
theorem test_V150_lw :
    (run 0x8C230000#32 (x 1 0x400ABC#64 here)).map caught =
      some (0xFFFFFFFF80000000#64, 0x8#32, 0xFFFFFFFF80001000#64) := by
  decide +kernel
theorem test_V103_lwu :
    (run 0x9C230000#32 (x 1 0xFFFFFFFF80002000#64 here)).map (fun t => t.readReg 3) = some 0x8192A3B4#64 := by
  decide +kernel
theorem test_V105_ld :
    (run 0xDC230000#32 (x 1 0xFFFFFFFF80002000#64 here)).map (fun t => t.readReg 3) = some 0x8192A3B4C5D6E7F8#64 := by
  decide +kernel
theorem test_V108_ld :
    (run 0xDC230004#32 (x 1 0xFFFFFFFF80002000#64 here)).map caught =
      some (0xFFFFFFFF80000180#64, 0x10#32, 0xFFFFFFFF80001000#64) := by
  decide +kernel
theorem test_V112_lwl :
    (run 0x88230001#32 (x 3 0x1111111122222222#64 (x 1 0xFFFFFFFF80002000#64 here))).map (fun t => t.readReg 3) =
      some 0xFFFFFFFF92A3B422#64 := by
  decide +kernel
theorem test_V114_lwl :
    (run 0x88230003#32 (x 3 0x1111111122222222#64 (x 1 0xFFFFFFFF80002000#64 here))).map (fun t => t.readReg 3) =
      some 0xFFFFFFFFB4222222#64 := by
  decide +kernel
theorem test_V116_lwr :
    (run 0x98230001#32 (x 3 0x1111111122222222#64 (x 1 0xFFFFFFFF80002000#64 here))).map (fun t => t.readReg 3) =
      some 0x22228192#64 := by
  decide +kernel
theorem test_V118_lwr :
    (run 0x98230003#32 (x 3 0x1111111122222222#64 (x 1 0xFFFFFFFF80002000#64 here))).map (fun t => t.readReg 3) =
      some 0xFFFFFFFF8192A3B4#64 := by
  decide +kernel
theorem test_V120_ldl :
    (run 0x68230003#32 (x 3 0x1111111122222222#64 (x 1 0xFFFFFFFF80002000#64 here))).map (fun t => t.readReg 3) =
      some 0xB4C5D6E7F8222222#64 := by
  decide +kernel
theorem test_V121_ldl :
    (run 0x68230007#32 (x 3 0x1111111122222222#64 (x 1 0xFFFFFFFF80002000#64 here))).map (fun t => t.readReg 3) =
      some 0xF811111122222222#64 := by
  decide +kernel
theorem test_V122_ldr :
    (run 0x6C230000#32 (x 3 0x1111111122222222#64 (x 1 0xFFFFFFFF80002000#64 here))).map (fun t => t.readReg 3) =
      some 0x1111111122222281#64 := by
  decide +kernel
theorem test_V123_ldr :
    (run 0x6C230004#32 (x 3 0x1111111122222222#64 (x 1 0xFFFFFFFF80002000#64 here))).map (fun t => t.readReg 3) =
      some 0x1111118192A3B4C5#64 := by
  decide +kernel
theorem test_V125_sb :
    (run 0xA0230001#32 (x 3 0x102030405060708#64 (x 1 0xFFFFFFFF80002000#64 here))).map datum =
      some 0x8108A3B4C5D6E7F8#64 := by
  decide +kernel
theorem test_V126_sh :
    (run 0xA4230002#32 (x 3 0x102030405060708#64 (x 1 0xFFFFFFFF80002000#64 here))).map datum =
      some 0x81920708C5D6E7F8#64 := by
  decide +kernel
theorem test_V129_sh :
    (run 0xA4230001#32 (x 3 0x102030405060708#64 (x 1 0xFFFFFFFF80002000#64 here))).map caught =
      some (0xFFFFFFFF80000180#64, 0x14#32, 0xFFFFFFFF80001000#64) := by
  decide +kernel
theorem test_V127_sw :
    (run 0xAC230004#32 (x 3 0x102030405060708#64 (x 1 0xFFFFFFFF80002000#64 here))).map datum =
      some 0x8192A3B405060708#64 := by
  decide +kernel
theorem test_V130_sw :
    (run 0xAC230002#32 (x 3 0x102030405060708#64 (x 1 0xFFFFFFFF80002000#64 here))).map caught =
      some (0xFFFFFFFF80000180#64, 0x14#32, 0xFFFFFFFF80001000#64) := by
  decide +kernel
theorem test_V128_sd :
    (run 0xFC230000#32 (x 3 0x102030405060708#64 (x 1 0xFFFFFFFF80002000#64 here))).map datum =
      some 0x102030405060708#64 := by
  decide +kernel
theorem test_V131_sd :
    (run 0xFC230004#32 (x 3 0x102030405060708#64 (x 1 0xFFFFFFFF80002000#64 here))).map caught =
      some (0xFFFFFFFF80000180#64, 0x14#32, 0xFFFFFFFF80001000#64) := by
  decide +kernel
theorem test_V133_swl :
    (run 0xA8230001#32 (x 3 0x102030405060708#64 (x 1 0xFFFFFFFF80002000#64 here))).map datum =
      some 0x81050607C5D6E7F8#64 := by
  decide +kernel
theorem test_V134_swl :
    (run 0xA8230003#32 (x 3 0x102030405060708#64 (x 1 0xFFFFFFFF80002000#64 here))).map datum =
      some 0x8192A305C5D6E7F8#64 := by
  decide +kernel
theorem test_V135_swr :
    (run 0xB8230000#32 (x 3 0x102030405060708#64 (x 1 0xFFFFFFFF80002000#64 here))).map datum =
      some 0x892A3B4C5D6E7F8#64 := by
  decide +kernel
theorem test_V136_swr :
    (run 0xB8230002#32 (x 3 0x102030405060708#64 (x 1 0xFFFFFFFF80002000#64 here))).map datum =
      some 0x60708B4C5D6E7F8#64 := by
  decide +kernel
theorem test_V139_sdl :
    (run 0xB0230005#32 (x 3 0x102030405060708#64 (x 1 0xFFFFFFFF80002000#64 here))).map datum =
      some 0x8192A3B4C5010203#64 := by
  decide +kernel
theorem test_V140_sdl :
    (run 0xB0230007#32 (x 3 0x102030405060708#64 (x 1 0xFFFFFFFF80002000#64 here))).map datum =
      some 0x8192A3B4C5D6E701#64 := by
  decide +kernel
theorem test_V141_sdr :
    (run 0xB4230000#32 (x 3 0x102030405060708#64 (x 1 0xFFFFFFFF80002000#64 here))).map datum =
      some 0x892A3B4C5D6E7F8#64 := by
  decide +kernel
theorem test_V142_sdr :
    (run 0xB4230002#32 (x 3 0x102030405060708#64 (x 1 0xFFFFFFFF80002000#64 here))).map datum =
      some 0x60708B4C5D6E7F8#64 := by
  decide +kernel
theorem test_V144_ll :
    (run 0xC0230000#32 (x 1 0xFFFFFFFF80002000#64 here)).map (fun t => (t.readReg 3, t.llBit, t.cop0.llAddr)) =
      some (0xFFFFFFFF8192A3B4#64, true, 0x200#32) := by
  decide +kernel
theorem test_V145_lld :
    (run 0xD0230000#32 (x 1 0xFFFFFFFF80002000#64 here)).map (fun t => (t.readReg 3, t.llBit, t.cop0.llAddr)) =
      some (0x8192A3B4C5D6E7F8#64, true, 0x200#32) := by
  decide +kernel
theorem test_V146_sc :
    (run 0xE0230004#32 (link true (x 3 0x102030405060708#64 (x 1 0xFFFFFFFF80002000#64 here)))).map
        (fun t => (datum t, t.readReg 3)) =
      some (0x8192A3B405060708#64, 0x1#64) := by
  decide +kernel
theorem test_V147_sc :
    (run 0xE0230004#32 (link false (x 3 0x102030405060708#64 (x 1 0xFFFFFFFF80002000#64 here)))).map
        (fun t => (datum t, t.readReg 3)) =
      some (0x8192A3B4C5D6E7F8#64, 0x0#64) := by
  decide +kernel
theorem test_V148_scd :
    (run 0xF0230000#32 (link true (x 3 0x102030405060708#64 (x 1 0xFFFFFFFF80002000#64 here)))).map
        (fun t => (datum t, t.readReg 3)) =
      some (0x102030405060708#64, 0x1#64) := by
  decide +kernel
theorem test_V151_cache :
    run 0xBC210000#32 (x 1 0x400000#64 here) =
      some (placed 0xBC210000#32 (walked (x 1 0x400000#64 here))) := by
  decide +kernel
theorem test_V152_sync :
    run 0xF#32 here =
      some (placed 0xF#32 (walked here)) := by
  decide +kernel
theorem test_V153_tge :
    (run 0x220030#32 (x 2 0x5#64 (x 1 0x5#64 here))).map caught =
      some (0xFFFFFFFF80000180#64, 0x34#32, 0xFFFFFFFF80001000#64) := by
  decide +kernel
theorem test_V154_tge :
    run 0x220030#32 (x 2 0x0#64 (x 1 0xFFFFFFFFFFFFFFFF#64 here)) =
      some (placed 0x220030#32 (walked (x 2 0x0#64 (x 1 0xFFFFFFFFFFFFFFFF#64 here)))) := by
  decide +kernel
theorem test_V155_tgeu :
    (run 0x220031#32 (x 2 0x0#64 (x 1 0xFFFFFFFFFFFFFFFF#64 here))).map caught =
      some (0xFFFFFFFF80000180#64, 0x34#32, 0xFFFFFFFF80001000#64) := by
  decide +kernel
theorem test_V156_tlt :
    (run 0x220032#32 (x 2 0x0#64 (x 1 0xFFFFFFFFFFFFFFFF#64 here))).map caught =
      some (0xFFFFFFFF80000180#64, 0x34#32, 0xFFFFFFFF80001000#64) := by
  decide +kernel
theorem test_V157_tltu :
    run 0x220033#32 (x 2 0x0#64 (x 1 0xFFFFFFFFFFFFFFFF#64 here)) =
      some (placed 0x220033#32 (walked (x 2 0x0#64 (x 1 0xFFFFFFFFFFFFFFFF#64 here)))) := by
  decide +kernel
theorem test_V158_teq :
    run 0x220034#32 (x 2 0x0#64 (x 1 0x100000000#64 here)) =
      some (placed 0x220034#32 (walked (x 2 0x0#64 (x 1 0x100000000#64 here)))) := by
  decide +kernel
theorem test_V159_teq :
    (run 0x34#32 here).map caught = some (0xFFFFFFFF80000180#64, 0x34#32, 0xFFFFFFFF80001000#64) := by
  decide +kernel
theorem test_V160_tne :
    (run 0x220036#32 (x 2 0x2#64 (x 1 0x1#64 here))).map caught =
      some (0xFFFFFFFF80000180#64, 0x34#32, 0xFFFFFFFF80001000#64) := by
  decide +kernel
theorem test_V161_tgei :
    (run 0x428FFFF#32 (x 1 0x0#64 here)).map caught =
      some (0xFFFFFFFF80000180#64, 0x34#32, 0xFFFFFFFF80001000#64) := by
  decide +kernel
theorem test_V162_tgeiu :
    run 0x429FFFF#32 (x 1 0x0#64 here) =
      some (placed 0x429FFFF#32 (walked (x 1 0x0#64 here))) := by
  decide +kernel
theorem test_V163_tlti :
    (run 0x42A0000#32 (x 1 0xFFFFFFFFFFFFFFFF#64 here)).map caught =
      some (0xFFFFFFFF80000180#64, 0x34#32, 0xFFFFFFFF80001000#64) := by
  decide +kernel
theorem test_V164_tltiu :
    (run 0x42BFFFF#32 (x 1 0x5#64 here)).map caught =
      some (0xFFFFFFFF80000180#64, 0x34#32, 0xFFFFFFFF80001000#64) := by
  decide +kernel
theorem test_V165_teqi :
    run 0x42CFFFF#32 (x 1 0xFFFF#64 here) =
      some (placed 0x42CFFFF#32 (walked (x 1 0xFFFF#64 here))) := by
  decide +kernel
theorem test_V166_tnei :
    run 0x42E0007#32 (x 1 0x7#64 here) =
      some (placed 0x42E0007#32 (walked (x 1 0x7#64 here))) := by
  decide +kernel
theorem test_V167_syscall :
    (run 0xC#32 here).map caught = some (0xFFFFFFFF80000180#64, 0x20#32, 0xFFFFFFFF80001000#64) := by
  decide +kernel
theorem test_V170_syscall :
    (run 0xC#32 (c0 (fun c => { c with status := 0x2#32, epc := 0x1234#64 }) here)).map caught =
      some (0xFFFFFFFF80000180#64, 0x20#32, 0x1234#64) := by
  decide +kernel
theorem test_V169_brk :
    (run 0xD#32 here).map caught = some (0xFFFFFFFF80000180#64, 0x24#32, 0xFFFFFFFF80001000#64) := by
  decide +kernel
theorem test_V171_mtc0 :
    (run 0x40816000#32 (x 1 0xFFFFFFFFFFFFFFFF#64 here)).map (fun t => (t.cop0.status)) = some (0xFF57FFFF#32) := by
  decide +kernel
theorem test_V183_mtc0 :
    (run 0x40815800#32 (c0 (fun c => { c with cause := 0x8000#32 }) (x 1 0x100#64 here))).map
        (fun t => (t.cop0.compare, t.cop0.cause)) =
      some (0x100#32, 0x0#32) := by
  decide +kernel
theorem test_V173_mfc0 :
    (run 0x40034800#32 (c0 (fun c => { c with count := 0x80000000#32 }) here)).map (fun t => t.readReg 3) =
      some 0xFFFFFFFF80000000#64 := by
  decide +kernel
theorem test_V174_mfc0 :
    (run 0x40037000#32 (c0 (fun c => { c with epc := 0x123456789ABCDEF0#64 }) here)).map (fun t => t.readReg 3) =
      some 0xFFFFFFFF9ABCDEF0#64 := by
  decide +kernel
theorem test_V175_dmfc0 :
    (run 0x40237000#32 (c0 (fun c => { c with epc := 0x123456789ABCDEF0#64 }) here)).map (fun t => t.readReg 3) =
      some 0x123456789ABCDEF0#64 := by
  decide +kernel
theorem test_V177_dmtc0 :
    (run 0x40A15000#32 (x 1 0xFFFFFFFFFFFFFFFF#64 here)).map (fun t => (t.cop0.entryHi)) =
      some (0xC00000FFFFFFE0FF#64) := by
  decide +kernel
theorem test_V186_tlbwi :
    stopped (step (placed 0x42000002#32 (c0 (fun c => { c with index := 0x20#32 }) here))) =
      some (.tlbIndexOutOfRange 0x20) := by
  decide +kernel
theorem test_V187_tlbr :
    (run 0x42000001#32 (entry7 (c0 (fun c => { c with index := 0x7#32, entryHi := 0xAB#64 }) here))).map
        (fun t => (t.cop0.entryLo0, t.cop0.entryLo1)) =
      some (0x491E#64, 0x1161A#64) := by
  decide +kernel
theorem test_V188_tlbp :
    (run 0x42000008#32 (entry7 (c0 (fun c => { c with entryHi := 0x401005#64, index := 0x3#32 }) here))).map
        (fun t => (t.cop0.index)) =
      some (0x7#32) := by
  decide +kernel
theorem test_V189_tlbp :
    (run 0x42000008#32 (entry7 (c0 (fun c => { c with entryHi := 0x400006#64, index := 0x3#32 }) here))).map
        (fun t => (t.cop0.index)) =
      some (0x80000000#32) := by
  decide +kernel
theorem test_V190_tlbwr :
    stopped (step (placed 0x42000006#32 (c0 (fun c => { c with wired := 0x28#32 }) here))) =
      some (.tlbIndexOutOfRange 0x28) := by
  decide +kernel
theorem test_V191_eret :
    (run 0x42000018#32 (link true (c0 (fun c => { c with status := 0x3#32, epc := 0xFFFFFFFF80003000#64 }) here))).map
        (fun t => (t.pc, t.cop0.status)) =
      some (0xFFFFFFFF80003000#64, 0x1#32) := by
  decide +kernel
theorem test_V192_eret :
    (run 0x42000018#32 (c0 (fun c => { c with status := 0x7#32, epc := 0xFFFFFFFF80003000#64, errorEPC := 0xFFFFFFFF80004000#64 }) here)).map
        (fun t => (t.pc, t.cop0.status)) =
      some (0xFFFFFFFF80004000#64, 0x3#32) := by
  decide +kernel
theorem test_V193_mtc1 :
    (run 0x44831000#32 (x 3 0x1#64 here)).map caught =
      some (0xFFFFFFFF80000180#64, 0x1000002C#32, 0xFFFFFFFF80001000#64) := by
  decide +kernel
theorem test_V194_lwc1 :
    (run 0xC4220000#32 (x 1 0x2#64 here)).map caught =
      some (0xFFFFFFFF80000180#64, 0x1000002C#32, 0xFFFFFFFF80001000#64) := by
  decide +kernel
theorem test_V195_bc1t :
    (run 0x45010004#32 here).map caught = some (0xFFFFFFFF80000180#64, 0x1000002C#32, 0xFFFFFFFF80001000#64) := by
  decide +kernel

-- One step, for what the vectors leave out.

theorem test_blezl_zero_taken :
    (run 0x58200002#32 here).map control = some (0xFFFFFFFF80001004#64, 0xFFFFFFFF8000100C#64, true) := by
  decide +kernel
theorem test_bgtzl_zero_skips :
    (run 0x5C200002#32 here).map control = some (0xFFFFFFFF80001008#64, 0xFFFFFFFF8000100C#64, false) := by
  decide +kernel
theorem test_bltzl_skips :
    (run 0x04220002#32 here).map control = some (0xFFFFFFFF80001008#64, 0xFFFFFFFF8000100C#64, false) := by
  decide +kernel
theorem test_bgezl_zero_taken :
    (run 0x04230002#32 here).map control = some (0xFFFFFFFF80001004#64, 0xFFFFFFFF8000100C#64, true) := by
  decide +kernel
theorem test_bgezall_skips_and_links :
    (run 0x04330002#32 (x 1 0x8000000000000000#64 here)).map (fun t => (t.readReg 31, control t)) =
      some (0xFFFFFFFF80001008#64, 0xFFFFFFFF80001008#64, 0xFFFFFFFF8000100C#64, false) := by
  decide +kernel
/-- TLBWR completes with Wired at its largest legal value (R412); which entry it writes is a draw. -/
theorem test_tlbwr_completes : (run 0x42000006#32 (c0 (fun c => { c with wired := 31#32 }) here)).isSome = true := by
  decide +kernel

/-- `here` with CU1 and FR set. -/
def fpuOn (s : State) : State := c0 (fun c => { c with status := 0x24000000#32 }) s

/-- The port calls of one step (46_cop1_interface.md R431). -/
def calls (w : Word) (s : State) : Option (List Config.PortCall) := (run w (fpuOn s)).map State.ports

theorem test_mfc1 : calls 0x44031000#32 here = some [.fpuMoveFrom 0x44031000#32 true] := by decide +kernel
theorem test_dmfc1 : calls 0x44231000#32 here = some [.fpuMoveFrom 0x44231000#32 true] := by decide +kernel
theorem test_cfc1 : calls 0x4443F800#32 here = some [.fpuMoveFrom 0x4443F800#32 true] := by decide +kernel
theorem test_lwc1 :
    calls 0xC4220004#32 (x 1 0xFFFFFFFF80002000#64 here) = some [.fpuLoad 2 .word 0xC5D6E7F8#64 true] := by
  decide +kernel
theorem test_ldc1 :
    calls 0xD4220000#32 (x 1 0xFFFFFFFF80002000#64 here) = some [.fpuLoad 2 .dword 0x8192A3B4C5D6E7F8#64 true] := by
  decide +kernel
theorem test_swc1 :
    calls 0xE4220004#32 (x 1 0xFFFFFFFF80002000#64 here) = some [.fpuStoreData 2 .word true] := by
  decide +kernel
theorem test_sdc1 :
    calls 0xF4220000#32 (x 1 0xFFFFFFFF80002000#64 here) = some [.fpuStoreData 2 .dword true] := by
  decide +kernel
theorem test_bc1f : calls 0x45000004#32 here = some [.fpuCond] := by decide +kernel
theorem test_bc1fl : calls 0x45020004#32 here = some [.fpuCond] := by decide +kernel
theorem test_bc1tl : calls 0x45030004#32 here = some [.fpuCond] := by decide +kernel
/-- With CU1 clear the rows whose answer is free raise CoprocessorUnusable(1) before any port call (R430). -/
def refusedByCU1 (w : Word) : Bool := (run w here).map (fun t => (t.cop0.cause, t.ports)) == some (0x1000002C#32, [])

theorem test_dmtc1_unusable : refusedByCU1 0x44A31000#32 = true := by decide +kernel
theorem test_ctc1_unusable : refusedByCU1 0x44C3F800#32 = true := by decide +kernel
theorem test_cop1S_unusable : refusedByCU1 0x46000000#32 = true := by decide +kernel
theorem test_cop1D_unusable : refusedByCU1 0x46200000#32 = true := by decide +kernel
theorem test_cop1W_unusable : refusedByCU1 0x46800000#32 = true := by decide +kernel
theorem test_cop1L_unusable : refusedByCU1 0x46A00000#32 = true := by decide +kernel

/-- The words of V-D5 to V-D24 that match no row are refused (30_encoding.md R172). -/
theorem test_reserved_words :
    ([0x42000019#32, 0x00000001#32, 0x0000000A#32, 0x70000000#32, 0x7C00003B#32, 0x04040000#32, 0x48000000#32,
        0xC8000000#32, 0x40C00000#32, 0x46600000#32, 0x45040000#32, 0x0000000E#32, 0x0000003D#32] : List Word).all
      (fun w => (read w).isNone) = true := by
  decide +kernel

/-- A pending, unmasked interrupt is taken in place of the fetched word, even one that matches no row (R26, R483). -/
theorem test_interrupt :
    (run 0x42000019#32 (c0 (fun c => { c with status := 0x401#32, cause := 0x400#32 }) here)).map caught =
      some (0xFFFFFFFF80000180#64, 0x400#32, 0xFFFFFFFF80001000#64) := by
  decide +kernel

/-- A fault in a delay slot is blamed on the branch: EPC is four below, Cause.BD is set (60_exceptions.md R470). -/
theorem test_delay_slot_exception :
    (run 0x0000000C#32 { here with delaySlot := true }).map caught =
      some (0xFFFFFFFF80000180#64, 0x80000020#32, 0xFFFFFFFF80000FFC#64) := by
  decide +kernel

/-- Events arrive before the step: a tick that meets Compare sets IP[7] and the interrupt is taken at once (R490). -/
theorem test_timer_interrupt :
    (run 0x00000000#32
      { c0 (fun c => { c with status := 0x8001#32, count := 0xFFFFFFFF#32 }) here with schedule := [[.timerTick]] }).map
        (fun t => (t.cop0.cause, t.cop0.count)) = some (0x8000#32, 0#32) := by
  decide +kernel

/-- The first step after reset runs the word placed where it fetches, in kseg1 (70_reset_and_hazards.md R520). -/
theorem test_first_instruction :
    (reached (step (State.reset.withFetchWord 32 0x24010005))).map (fun t => (t.readReg 1, t.pc)) =
      some (5#64, 0xFFFFFFFFBFC00004#64) := by
  decide +kernel

/-- What the block stores at the reset address does not change the boot ROM there (20_memory.md R91,
70_reset_and_hazards.md R522; log 4): SW $2,0($1) with `x[1]` at the reset address leaves the word as it was. -/
theorem test_boot_rom_keeps :
    (run 0xAC220000#32 (x 2 0x12345678#64 (x 1 0xFFFFFFFFBFC00000#64 here))).map
        (fun t => (t.mem.read 0x1FC00000#32 .word, t.pc)) = some (0#64, 0xFFFFFFFF80001004#64) := by
  decide +kernel

theorem test_decodeTableWord : decodeTableWord 32 0x00221820 = some (.add 3 1 2) := by decide +kernel

-- Witnesses: for every statement with hypotheses, states and operands that meet all of them.

/-- The state an instruction at `here` runs in. -/
def inside : State := here.advance

/-- A state with Status as given. -/
def withStatus (st : Word) (s : State) : State := c0 (fun c => { c with status := st }) s

/-- RAM below 0x10000, ROM at the boot window, nothing elsewhere. -/
def withMap (s : State) : State :=
  { s with params := Config.Params.withMap [⟨0, 0x10000, .ram⟩, ⟨0x1FC00000, 0x1000, .rom⟩] }

/-- `x[1]` points at the datum that `here` holds. -/
def pointing (offset : Nat) : State := x 1 (0xFFFFFFFF80002000#64 + BitVec.ofNat 64 offset) inside

theorem next_of_reached {r : Result} (h : (reached r).isSome = true) : ∃ t, r = .next t := by
  cases r with
  | next t => exact ⟨t, rfl⟩
  | fault f => cases h
  | refused f => cases h

theorem decode_of_option {w : Word} {i : Instr} (h : (decode w).toOption = some i) : decode w = .ok i := by
  cases hd : decode w with
  | ok j => rw [hd] at h; cases h; rfl
  | error e => rw [hd] at h; cases h

theorem witness_DecodeOfEncode : (Instr.cache 21 29 0x8001).wellFormed = true := rfl

theorem witness_DecodePicksTheRow :
    decode 0x00221FE0#32 = .ok (.add 3 1 2)
      ∧ 0x00221FE0#32 &&& (Instr.add 0 0 0).row.mask = (Instr.add 0 0 0).row.value :=
  ⟨decode_of_option (by decide +kernel), by decide +kernel⟩

theorem witness_ResetMeetsInvariant : here.mem.wf = true := by decide +kernel

theorem inv_here : Safety.Inv (placed 0x00221820#32 here) where
  zero := by decide +kernel
  mem := by decide +kernel
  cop0 := by constructor <;> (unfold Safety.Within; decide +kernel)
  tlb := by unfold Safety.TlbEntryInv; decide +kernel

theorem witness_StepKeepsInvariant :
    Safety.Inv (placed 0x00221820#32 here) ∧ ∃ t, step (placed 0x00221820#32 here) = .next t :=
  ⟨inv_here, next_of_reached (by decide +kernel)⟩

/-- The state after the events of a step at `here` (there are none), with `w` at the pc. -/
def arrived (w : Word) (s : State) : State := (placed w s).arrive

theorem witness_StepRunsDecoded :
    arrived 0x00221820#32 here = (placed 0x00221820#32 here).arrive
      ∧ aligned .word (arrived 0x00221820#32 here).pc = true
      ∧ xlate .load (arrived 0x00221820#32 here).pc (arrived 0x00221820#32 here) = .ok 0x1000#32
      ∧ interruptDue (arrived 0x00221820#32 here) = false
      ∧ decode (low32 ((arrived 0x00221820#32 here).memReadValue 0x1000#32 .word)) = .ok (.add 3 1 2) :=
  ⟨rfl, by decide +kernel, by decide +kernel, by decide +kernel, decode_of_option (by decide +kernel)⟩

/-- One gap's events in order (log 9): the line is raised and lowered again, and a bus master writes a byte of RAM. -/
def scheduled : State :=
  { here with schedule := [[.irqSet .ip3, .irqClear .ip3, .timerTick, .busWrite 0x2007#32 0x55#8], [.irqSet .ip6]] }

theorem witness_StepRunsDecoded_events :
    scheduled.schedule = [.irqSet .ip3, .irqClear .ip3, .timerTick, .busWrite 0x2007#32 0x55#8] :: [[.irqSet .ip6]]
      ∧ here.schedule = [] ∧ scheduled.arrive.cop0.cause = 0#32 ∧ scheduled.arrive.cop0.count = 1#32
      ∧ datum scheduled.arrive = 0x8192A3B4C5D6E755#64 := by
  decide +kernel

/-- External line 2 pending and unmasked, interrupts enabled. -/
def interrupted : State := c0 (fun c => { c with status := 0x401#32, cause := 0x400#32 }) here

theorem witness_StepTakesInterrupt :
    interrupted.arrive = interrupted ∧ aligned .word interrupted.pc = true
      ∧ xlate .load interrupted.pc interrupted = .ok 0x1000#32 ∧ interruptDue interrupted = true := by
  decide +kernel

theorem witness_StepFetchFails_misaligned :
    aligned .word { here with pc := 0xFFFFFFFF80001001#64 }.arrive.pc = false
      ∧ aligned .word { here with pc := 0xFFFFFFFF80001003#64 }.arrive.pc = false := by
  decide +kernel

theorem witness_StepFetchFails_untranslated :
    aligned .word { here with pc := 0x1000#64 }.arrive.pc = true
      ∧ xlate .load { here with pc := 0x1000#64 }.arrive.pc { here with pc := 0x1000#64 }.arrive = .fail .miss := by
  decide +kernel

theorem witness_StepFetchFails_reserved :
    xlate .load (arrived 0x42000019#32 here).pc (arrived 0x42000019#32 here) = .ok 0x1000#32
      ∧ interruptDue (arrived 0x42000019#32 here) = false
      ∧ low32 ((arrived 0x42000019#32 here).memReadValue 0x1000#32 .word) = 0x42000019#32
      ∧ ∀ i : Instr, 0x42000019#32 &&& i.row.mask ≠ i.row.value := by
  refine ⟨by decide +kernel, by decide +kernel, by decide +kernel, fun i => ?_⟩
  cases i <;> (simp only [Instr.row]; decide)

theorem witness_StepFetchFails_mode :
    aligned .word (withStatus 0x18#32 here).arrive.pc = true
      ∧ modeOf (withStatus 0x18#32 here).arrive.cop0.status = none := by
  decide +kernel

theorem witness_CheckedArithmetic :
    Safety.Fits 32 (Safety.lowInt (x 1 0x7FFFFFFF#64 inside) 1 + 0)
      ∧ ¬Safety.Fits 32 (Safety.lowInt (x 1 0x7FFFFFFF#64 inside) 1 + 1)
      ∧ Safety.Fits 64 (Safety.regInt (x 1 0x8000000000000000#64 inside) 1 - 0)
      ∧ ¬Safety.Fits 64 (Safety.regInt (x 1 0x8000000000000000#64 inside) 1 - 1) := by
  unfold Safety.Fits; decide +kernel

theorem witness_DivideExactly :
    (Safety.lowInt (x 2 3#64 (x 1 0x80000000#64 inside)) 2 ≠ 0
        ∧ ¬(Safety.lowInt (x 2 3#64 (x 1 0x80000000#64 inside)) 1 = -2 ^ 31
          ∧ Safety.lowInt (x 2 3#64 (x 1 0x80000000#64 inside)) 2 = -1))
      ∧ Safety.lowNat (x 2 1#64 inside) 2 ≠ 0
      ∧ (Safety.regInt (x 2 (-1#64) (x 1 0x8000000000000001#64 inside)) 2 ≠ 0
        ∧ ¬(Safety.regInt (x 2 (-1#64) (x 1 0x8000000000000001#64 inside)) 1 = -2 ^ 63
          ∧ Safety.regInt (x 2 (-1#64) (x 1 0x8000000000000001#64 inside)) 2 = -1))
      ∧ Safety.regNat (x 2 (-1#64) inside) 2 ≠ 0 := by
  decide +kernel

theorem witness_DivideByZeroAndOverflow :
    Safety.lowInt (x 2 0x100000000#64 inside) 2 = 0 ∧ Safety.lowNat (x 2 0x100000000#64 inside) 2 = 0
      ∧ Safety.regInt inside 2 = 0 ∧ Safety.regNat inside 2 = 0
      ∧ Safety.regInt (x 1 0x8000000000000000#64 inside) 1 = -2 ^ 63 ∧ Safety.regInt (x 2 (-1#64) inside) 2 = -1
      ∧ Safety.lowInt (x 1 0x80000000#64 inside) 1 = -2 ^ 31 ∧ Safety.lowInt (x 2 0xFFFFFFFF#64 inside) 2 = -1 := by
  decide +kernel

theorem witness_HiLoWritersAndReaders :
    (Instr.addu 3 1 2).cls ≠ .muldiv ∧ (∀ r, Instr.addu 3 1 2 ≠ .mfhi r ∧ Instr.addu 3 1 2 ≠ .mflo r)
      ∧ (∀ r, Instr.mult 1 2 ≠ .mfhi r ∧ Instr.mult 1 2 ≠ .mflo r) ∧ (∃ t, exec (.addu 3 1 2) inside = .next t)
      ∧ (∃ t, exec (.mult 1 2) inside = .next t) ∧ (∃ t, exec (.mfhi 3) inside = .next t)
      ∧ (∀ r, Instr.tlbr ≠ .mfhi r ∧ Instr.tlbr ≠ .mflo r)
      ∧ exec .tlbr (c0 (fun c => { c with index := 0x20#32 }) inside) = .fault (.tlbIndexOutOfRange 0x20) :=
  ⟨by decide, by simp, by simp, next_of_reached (by decide +kernel), next_of_reached (by decide +kernel),
    next_of_reached (by decide +kernel), by simp, by rfl⟩

theorem witness_Branches :
    0xFFFFFFFF80001000#64 = inside.pc + BitVec.ofInt 64 (4 * (0xFFFF#16 : BitVec 16).toInt)
      ∧ inside.readReg 1 = inside.readReg 2 ∧ (x 1 9#64 inside).readReg 1 ≠ (x 1 9#64 inside).readReg 2
      ∧ Safety.regInt inside 1 ≤ 0 ∧ ¬0 < Safety.regInt inside 1
      ∧ Safety.regInt (x 1 0x8000000000000000#64 inside) 1 < 0
      ∧ ¬0 ≤ Safety.regInt (x 1 0x8000000000000000#64 inside) 1 := by
  decide +kernel

theorem witness_BranchesLikely :
    0xFFFFFFFF80021000#64 = inside.pc + BitVec.ofInt 64 (4 * (0x7FFF#16 : BitVec 16).toInt)
      ∧ (x 2 9#64 inside).readReg 1 ≠ (x 2 9#64 inside).readReg 2 ∧ 0 < Safety.regInt (x 1 1#64 inside) 1
      ∧ ¬Safety.regInt (x 1 1#64 inside) 1 ≤ 0 ∧ ¬Safety.regInt inside 1 < 0 ∧ 0 ≤ Safety.regInt inside 1 := by
  decide +kernel

theorem witness_OnlyBlockEndersRedirect :
    decode 0x00221820#32 = .ok (.add 3 1 2) ∧ endsBlock 0x00221820#32 = some false
      ∧ (∃ t, exec (.add 3 1 2) inside = .next t)
      ∧ ∃ t, exec (.add 3 1 2) (x 2 1#64 (x 1 0x7FFFFFFF#64 inside)) = .next t :=
  ⟨decode_of_option (by decide +kernel), by decide +kernel, next_of_reached (by decide +kernel),
    next_of_reached (by decide +kernel)⟩

/-- The bit at work: ERET and BC1TL have it, TLBP and MTC1 do not (30_encoding.md R178); 0x42000019 is reserved. -/
theorem witness_OnlyBlockEndersRedirect_rows :
    decode 0x42000018#32 = .ok .eret ∧ endsBlock 0x42000018#32 = some true
      ∧ endsBlock 0x45030010#32 = some true ∧ endsBlock 0x42000008#32 = some false
      ∧ endsBlock 0x44810800#32 = some false ∧ endsBlock 0x42000019#32 = none
      ∧ ∀ i : Instr, 0x42000019#32 &&& i.row.mask ≠ i.row.value := by
  refine ⟨decode_of_option (by decide +kernel), by decide +kernel, by decide +kernel, by decide +kernel,
    by decide +kernel, by decide +kernel, fun i => ?_⟩
  cases i <;> (simp only [Instr.row]; decide)

theorem witness_InterruptLines :
    (IrqLine.ip2, 10) ∈ [(IrqLine.ip2, 10), (.ip3, 11), (.ip4, 12), (.ip5, 13), (.ip6, 14)]
      ∧ (IrqLine.ip6, 14) ∈ [(IrqLine.ip2, 10), (.ip3, 11), (.ip4, 12), (.ip5, 13), (.ip6, 14)]
      ∧ 8 ≤ 15 ∧ 15 < 16 := by
  decide

theorem witness_ExceptionEntry :
    (ExcKind.floatingPoint, 15#5) ∈ [(ExcKind.interrupt, 0#5), (.tlbModification, 1#5), (.tlbLoad, 2#5), (.tlbStore, 3#5),
      (.addressErrorLoad, 4#5), (.addressErrorStore, 5#5), (.syscall, 8#5), (.breakpoint, 9#5),
      (.reservedInstruction, 10#5), (.coprocessorUnusable, 11#5), (.overflow, 12#5), (.trap, 13#5),
      (.floatingPoint, 15#5)] := by
  decide

theorem witness_TimerTick :
    (c0 (fun c => { c with count := 0xFFFFFFFF#32 }) here).cop0.count + 1#32 =
        (c0 (fun c => { c with count := 0xFFFFFFFF#32 }) here).cop0.compare
      ∧ here.cop0.count + 1#32 ≠ here.cop0.compare := by
  decide +kernel

theorem witness_MemoryPort :
    (withMap here).region 0xFFF8#32 = some .ram ∧ (withMap here).region 0x1FC00000#32 = some .rom
      ∧ (withMap here).region 0x10000#32 = none ∧ (withMap here).region 0x1FC01000#32 = none
      ∧ { here with params := Config.Params.withMap [⟨0x04000000, 0x100, .device⟩] }.region 0x040000F8#32 =
        some .device := by
  decide +kernel

theorem witness_UnmappedSegments :
    modeOf inside.cop0.status = some .kernel ∧ is64 inside.cop0.status = false
      ∧ (0xFFFFFFFF9FFFFFFF#64 : VAddr).extractLsb' 29 3 = 0b100#3
      ∧ (0x12345678A0000000#64 : VAddr).extractLsb' 29 3 = 0b101#3
      ∧ modeOf (withStatus 0x80#32 inside).cop0.status = some .kernel
      ∧ is64 (withStatus 0x80#32 inside).cop0.status = true
      ∧ (0xFFFFFFFFBFFFFFFF#64 : VAddr).extractLsb' 32 32 = 0xFFFFFFFF#32
      ∧ (0xFFFFFFFFBFFFFFFF#64 : VAddr).extractLsb' 29 3 = 0b101#3
      ∧ (0x90000000FFFFFFFF#64 : VAddr).extractLsb' 62 2 = 0b10#2
      ∧ (0x90000000FFFFFFFF#64 : VAddr).extractLsb' 32 27 = 0#27
      ∧ (0x9000000100000000#64 : VAddr).extractLsb' 32 27 ≠ 0#27 := by
  decide +kernel

theorem witness_PrivilegeRestrictsSegments_kernel :
    modeOf (withStatus 0x80#32 inside).cop0.status = some .kernel
      ∧ is64 (withStatus 0x80#32 inside).cop0.status = true
      ∧ (0x0000010000000000 ≤ (0x0000010000000000#64 : VAddr).toNat
        ∧ (0x3FFFFFFFFFFFFFFF#64 : VAddr).toNat ≤ 0x3FFFFFFFFFFFFFFF)
      ∧ (0x4000010000000000 ≤ (0x4000010000000000#64 : VAddr).toNat
        ∧ (0x7FFFFFFFFFFFFFFF#64 : VAddr).toNat ≤ 0x7FFFFFFFFFFFFFFF)
      ∧ (0xC00000FF80000000 ≤ (0xC00000FF80000000#64 : VAddr).toNat
        ∧ (0xFFFFFFFF7FFFFFFF#64 : VAddr).toNat ≤ 0xFFFFFFFF7FFFFFFF)
      ∧ xlate .load 0x0000010000000000#64 (withStatus 0x80#32 inside) = .fail .disallowedAddress
      ∧ xlate .store 0xFFFFFFFF7FFFFFFF#64 (withStatus 0x80#32 inside) = .fail .disallowedAddress
      ∧ xlate .load 0xC00000FF7FFFFFFF#64 (withStatus 0x80#32 inside) = .fail .miss := by
  decide +kernel

theorem witness_PrivilegeRestrictsSegments :
    modeOf (withStatus 0x10#32 inside).cop0.status = some .user ∧ is64 (withStatus 0x10#32 inside).cop0.status = false
      ∧ 2 ^ 31 ≤ (low32 0x80000000#64).toNat
      ∧ modeOf (withStatus 0x30#32 inside).cop0.status = some .user
      ∧ is64 (withStatus 0x30#32 inside).cop0.status = true
      ∧ 2 ^ 40 ≤ (0x10000000000#64 : VAddr).toNat
      ∧ modeOf (withStatus 0x08#32 inside).cop0.status = some .supervisor
      ∧ is64 (withStatus 0x08#32 inside).cop0.status = false ∧ 2 ^ 31 ≤ (low32 0xE0000000#64).toNat
      ∧ (0xE0000000#64 : VAddr).extractLsb' 29 3 ≠ 0b110#3
      ∧ modeOf (withStatus 0x48#32 inside).cop0.status = some .supervisor
      ∧ is64 (withStatus 0x48#32 inside).cop0.status = true ∧ 2 ^ 40 ≤ (0x4000010000000000#64 : VAddr).toNat
      ∧ ¬(2 ^ 62 ≤ (0x4000010000000000#64 : VAddr).toNat ∧ (0x4000010000000000#64 : VAddr).toNat < 2 ^ 62 + 2 ^ 40)
      ∧ ¬(0xFFFFFFFFC0000000 ≤ (0x4000010000000000#64 : VAddr).toNat
        ∧ (0x4000010000000000#64 : VAddr).toNat < 0xFFFFFFFFE0000000) := by
  decide +kernel

/-- `inside` with a valid pair of 16 KiB pages at 0x400000 in entry 7, in address space 5. -/
def mapped : State := entry7 (c0 (fun c => { c with entryHi := 5#64 }) inside)

/-- Both ends of every mapped segment, in every mode that reaches it (20_memory.md R103, R104). -/
theorem witness_MappedLookup_segments :
    Safety.InMapped .user false 0x123456787FFFFFFF#64 ∧ Safety.InMapped .supervisor false 0xFFFFFFFFC0000000#64
      ∧ Safety.InMapped .supervisor false 0xDFFFFFFF#64 ∧ Safety.InMapped .kernel false 0xE0000000#64
      ∧ Safety.InMapped .kernel false 0xFFFFFFFFFFFFFFFF#64 ∧ Safety.InMapped .user true 0xFFFFFFFFFF#64
      ∧ Safety.InMapped .supervisor true 0x4000000000000000#64 ∧ Safety.InMapped .kernel true 0x400000FFFFFFFFFF#64
      ∧ Safety.InMapped .kernel true 0xC000000000000000#64 ∧ Safety.InMapped .kernel true 0xC00000FF7FFFFFFF#64
      ∧ Safety.InMapped .supervisor true 0xFFFFFFFFC0000000#64
      ∧ Safety.InMapped .supervisor true 0xFFFFFFFFDFFFFFFF#64 ∧ Safety.InMapped .kernel true 0xFFFFFFFFE0000000#64
      ∧ Safety.InMapped .kernel true 0xFFFFFFFFFFFFFFFF#64 := by
  refine ⟨?_, ?_, ?_, ?_, ?_, ?_, ?_, ?_, ?_, ?_, ?_, ?_, ?_, ?_⟩ <;> (unfold Safety.InMapped; decide +kernel)

theorem witness_MappedLookup_first :
    modeOf mapped.cop0.status = some .kernel ∧ Safety.InMapped .kernel (is64 mapped.cop0.status) 0x407FFF#64
      ∧ 0x407FFF#64 = (if is64 mapped.cop0.status then 0x407FFF#64 else (low32 0x407FFF#64).signExtend 64)
      ∧ Safety.FirstMatch mapped (mapped.cop0.entryHi.extractLsb' 0 8) 0x407FFF#64 7
      ∧ ((mapped.tlb[7]).half 0x403FFF#64).v = true ∧ ((mapped.tlb[7]).half 0x403FFF#64).d = true := by
  unfold Safety.InMapped Safety.FirstMatch Safety.Matches; decide +kernel

/-- `inside` with a global pair at the start of ksseg, in entry 31: the even half not valid, the odd half not dirty. -/
def high : State :=
  { inside with tlb := inside.tlb.set 31 ⟨true, 3, 0x7FE0000, 9, true, 0, ⟨1, 0, true, false⟩, ⟨2, 0, false, true⟩⟩ }

theorem witness_MappedLookup_high :
    Safety.InMapped .kernel (is64 high.cop0.status) 0x12345678C0001FFF#64
      ∧ 0xFFFFFFFFC0001FFF#64 =
        (if is64 high.cop0.status then 0x12345678C0001FFF#64 else (low32 0x12345678C0001FFF#64).signExtend 64)
      ∧ Safety.FirstMatch high (high.cop0.entryHi.extractLsb' 0 8) 0xFFFFFFFFC0001FFF#64 31
      ∧ Safety.FirstMatch high (high.cop0.entryHi.extractLsb' 0 8) 0xFFFFFFFFC0000000#64 31
      ∧ ((high.tlb[31]).half 0xFFFFFFFFC0000000#64).v = false
      ∧ ((high.tlb[31]).half 0xFFFFFFFFC0001FFF#64).v = true ∧ ((high.tlb[31]).half 0xFFFFFFFFC0001FFF#64).d = false := by
  unfold Safety.InMapped Safety.FirstMatch Safety.Matches; decide +kernel

theorem witness_MappedLookup_wide :
    modeOf (withStatus 0x80#32 high).cop0.status = some .kernel
      ∧ Safety.InMapped .kernel (is64 (withStatus 0x80#32 high).cop0.status) 0xFFFFFFFFC0000000#64
      ∧ 0xFFFFFFFFC0000000#64 = (if is64 (withStatus 0x80#32 high).cop0.status then 0xFFFFFFFFC0000000#64
        else (low32 0xFFFFFFFFC0000000#64).signExtend 64)
      ∧ Safety.FirstMatch (withStatus 0x80#32 high) ((withStatus 0x80#32 high).cop0.entryHi.extractLsb' 0 8)
        0xFFFFFFFFC0000000#64 31 := by
  unfold Safety.InMapped Safety.FirstMatch Safety.Matches; decide +kernel

theorem witness_MappedLookup_none :
    modeOf mapped.cop0.status = some .kernel ∧ Safety.InMapped .kernel (is64 mapped.cop0.status) 0x408000#64
      ∧ 0x408000#64 = (if is64 mapped.cop0.status then 0x408000#64 else (low32 0x408000#64).signExtend 64)
      ∧ Safety.NoMatch mapped (mapped.cop0.entryHi.extractLsb' 0 8) 0x408000#64 := by
  unfold Safety.InMapped Safety.NoMatch Safety.Matches; decide +kernel

theorem witness_HalfPermissions :
    (TlbEntry.zero.half 0#64).v = false
      ∧ ((mapped.tlb[7]).half 0x404000#64).v = true ∧ ((mapped.tlb[7]).half 0x404000#64).d = false
      ∧ ((mapped.tlb[7]).half 0x400000#64).v = true ∧ ((mapped.tlb[7]).half 0x400000#64).d = true := by
  decide +kernel

theorem witness_TranslateWritesOnlyTheLatch :
    mapped.translate .store 0x404000#64 = (.fail .modification, { mapped with tlbError := some .modification })
      ∧ mapped.translate .load 0x404000#64 = (.ok 0x458000#32, mapped) := by
  decide +kernel

theorem witness_Loads :
    dataAddr .load .byte false 1 7 (pointing 0) = .ok 0x2007#32
      ∧ dataAddr .load .half true 1 6 (pointing 0) = .ok 0x2006#32
      ∧ dataAddr .load .word true 1 0xFFFC (pointing 8) = .ok 0x2004#32
      ∧ dataAddr .load .dword true 1 0 (pointing 0) = .ok 0x2000#32 := by
  decide +kernel

theorem witness_LoadsLeftRight :
    Safety.offsetIn .word ((pointing 0).ea 1 0) = 0 ∧ Safety.offsetIn .word ((pointing 0).ea 1 3) = 3
      ∧ Safety.offsetIn .dword ((pointing 0).ea 1 7) = 7
      ∧ dataAddr .load .word false 1 0 (pointing 0) = .ok 0x2000#32
      ∧ dataAddr .load .word false 1 3 (pointing 0) = .ok 0x2003#32
      ∧ dataAddr .load .dword false 1 7 (pointing 0) = .ok 0x2007#32 := by
  decide +kernel

theorem witness_UnalignedLoadPair :
    (3 : RegIdx) ≠ 0 ∧ (3 : RegIdx) ≠ 1 ∧ dataAddr .load .word false 1 0 (pointing 1) = .ok 0x2001#32
      ∧ dataAddr .load .word false 1 3 (pointing 1) = .ok (0x2001#32 + 3#32)
      ∧ (pointing 1).region (alignDown .word 0x2001#32) = some .ram
      ∧ (pointing 1).region (alignDown .word (0x2001#32 + 3#32)) = some .ram := by
  decide +kernel

theorem witness_Stores :
    dataAddr .store .byte false 1 0xFFFF (pointing 0) = .ok 0x1FFF#32
      ∧ dataAddr .store .half true 1 2 (pointing 0) = .ok 0x2002#32
      ∧ dataAddr .store .word true 1 4 (pointing 0) = .ok 0x2004#32
      ∧ dataAddr .store .dword true 1 0 (pointing 0) = .ok 0x2000#32 := by
  decide +kernel

theorem witness_StoresLeftRight :
    dataAddr .store .word false 1 0 (pointing 0) = .ok 0x2000#32
      ∧ dataAddr .store .word false 1 3 (pointing 0) = .ok 0x2003#32
      ∧ dataAddr .store .dword false 1 0 (pointing 0) = .ok 0x2000#32
      ∧ dataAddr .store .dword false 1 7 (pointing 0) = .ok 0x2007#32 := by
  decide +kernel

theorem witness_LoadLinkedStoreConditional :
    dataAddr .load .word true 1 4 (pointing 0) = .ok 0x2004#32
      ∧ dataAddr .load .dword true 1 0 (pointing 0) = .ok 0x2000#32
      ∧ dataAddr .store .word true 1 4 { pointing 0 with llBit := true } = .ok 0x2004#32
      ∧ dataAddr .store .dword true 1 0 (pointing 0) = .ok 0x2000#32 := by
  decide +kernel

theorem witness_DataFaults_misaligned :
    Safety.accessOf (.sw 3 1 3) = some ⟨.store, .word, true, 1, 3⟩
      ∧ ((pointing 0).ea 1 3).toNat % Width.word.bytes ≠ 0
      ∧ Safety.accessOf (.lwc1 3 1 1) = some ⟨.load, .word, true, 1, 1⟩
      ∧ statusCU1 (withStatus 0x20000000#32 (pointing 0)).cop0.status = true
      ∧ ((withStatus 0x20000000#32 (pointing 0)).ea 1 1).toNat % Width.word.bytes ≠ 0 := by
  decide +kernel

theorem witness_DataFaults_untranslated :
    Safety.accessOf (.lb 3 0 0) = some ⟨.load, .byte, false, 0, 0⟩ ∧ xlate .load (inside.ea 0 0) inside = .fail .miss
      ∧ Safety.accessOf (.sd 3 1 0) = some ⟨.store, .dword, true, 1, 0⟩
      ∧ ((x 1 0x404000#64 mapped).ea 1 0).toNat % Width.dword.bytes = 0
      ∧ xlate .store ((x 1 0x404000#64 mapped).ea 1 0) (x 1 0x404000#64 mapped) = .fail .modification := by
  decide +kernel

theorem witness_ConditionalTraps :
    Safety.regInt (x 1 (-1#64) inside) 1 < Safety.regInt inside 2
      ∧ ¬Safety.regNat (x 1 (-1#64) inside) 1 < Safety.regNat inside 2
      ∧ inside.readReg 1 = inside.readReg 2 ∧ (x 1 1#64 inside).readReg 1 ≠ inside.readReg 2
      ∧ (0xFFFF#16 : BitVec 16).toInt ≤ Safety.regInt inside 1
      ∧ ¬((0xFFFF#16 : BitVec 16).signExtend 64).toNat ≤ Safety.regNat inside 1 := by
  decide +kernel

/-- User mode with the gate on and CU0 clear. -/
def gated : State := withStatus 0x10#32 { inside with params := { inside.params with cop0Gate := true } }

theorem witness_Cop0Gate :
    inside.params.cop0Gate = false ∧ modeOf inside.cop0.status = some .kernel
      ∧ statusCU0 (withStatus 0x10000010#32 gated).cop0.status = true
      ∧ gated.params.cop0Gate = true ∧ modeOf gated.cop0.status ≠ some .kernel ∧ statusCU0 gated.cop0.status = false
      ∧ Safety.IsCop0 .eret := by
  unfold Safety.IsCop0; decide +kernel

theorem witness_MoveFromCop0 :
    cop0Gated inside = false ∧ (inside.cop0.wired.extractLsb' 0 6).toNat ≤ 31
      ∧ cop0Gated (c0 (fun c => { c with wired := 32#32 }) inside) = false
      ∧ ¬((c0 (fun c => { c with wired := 32#32 }) inside).cop0.wired.extractLsb' 0 6).toNat ≤ 31 := by
  decide +kernel

theorem witness_MoveToCop0 :
    cop0Gated inside = false ∧ Safety.MovesTo 1 inside (Instr.mtc0 1) ((low32 (inside.readReg 1)).signExtend 64)
      ∧ Safety.MovesTo 1 inside (Instr.dmtc0 1) (inside.readReg 1) ∧ inside.params.unlistedWrite = .halt
      ∧ { inside.params with unlistedWrite := .ignore }.unlistedWrite = Config.UnlistedWrite.ignore :=
  ⟨by decide +kernel, .inl ⟨rfl, rfl⟩, .inr ⟨rfl, rfl⟩, rfl, rfl⟩

theorem witness_TlbReadAndWrite :
    cop0Gated (c0 (fun c => { c with index := 31#32, wired := 31#32 }) inside) = false
      ∧ ((c0 (fun c => { c with index := 31#32, wired := 31#32 }) inside).cop0.index.extractLsb' 0 6).toNat = 31
      ∧ ((c0 (fun c => { c with index := 31#32, wired := 31#32 }) inside).cop0.wired.extractLsb' 0 6).toNat = 31
      ∧ ((c0 (fun c => { c with index := 32#32, wired := 63#32 }) inside).cop0.index.extractLsb' 0 6).toNat = 32
      ∧ ((c0 (fun c => { c with index := 32#32, wired := 63#32 }) inside).cop0.wired.extractLsb' 0 6).toNat = 63 := by
  decide +kernel

theorem witness_TlbProbe :
    cop0Gated (c0 (fun c => { c with entryHi := 0x401005#64 }) mapped) = false
      ∧ Safety.FirstMatch (c0 (fun c => { c with entryHi := 0x401005#64 }) mapped) 5#8 0x401005#64 7
      ∧ Safety.NoMatch (c0 (fun c => { c with entryHi := 0x400006#64 }) mapped) 6#8 0x400006#64 := by
  unfold Safety.FirstMatch Safety.NoMatch Safety.Matches; decide +kernel

/-- The staging registers describe a valid, dirty 4 KiB pair at 0x400000 in address space 5, for entry 31. -/
def staged : State :=
  c0 (fun c => { c with index := 31#32, entryHi := 0x400005#64, entryLo0 := 0x491E#64, entryLo1 := 0x495E#64 }) inside

theorem witness_TlbWriteThenTranslate :
    cop0Gated staged = false ∧ modeOf staged.cop0.status = some .kernel ∧ is64 staged.cop0.status = false
      ∧ staged.cop0.pageMask = 0#32 ∧ (0x401FFF#64 : VAddr).toNat < 2 ^ 31
      ∧ (0x401FFF#64 : VAddr).extractLsb' 13 27 = staged.cop0.entryHi.extractLsb' 13 27
      ∧ staged.cop0.entryHi.extractLsb' 62 2 = 0#2
     
      ∧ (∀ j (h : j < 32), j ≠ (staged.cop0.index.extractLsb' 0 6).toNat →
        ¬Safety.Matches (staged.tlb[j]'h) 5#8 0x401FFF#64)
     
      ∧ (∀ j (h : j < 32), j ≠ (staged.cop0.index.extractLsb' 0 6).toNat →
        ¬Safety.Matches (staged.tlb[j]'h) 6#8 0x401FFF#64)
      ∧ 5#8 = staged.cop0.entryHi.extractLsb' 0 8 ∧ (0x401FFF#64 : VAddr).getLsbD 12 = true
      ∧ (0x400000#64 : VAddr).getLsbD 12 = false ∧ staged.cop0.entryLo0.getLsbD 1 = true
      ∧ staged.cop0.entryLo0.getLsbD 2 = true ∧ staged.cop0.entryLo1.getLsbD 1 = true
      ∧ staged.cop0.entryLo1.getLsbD 2 = true ∧ 6#8 ≠ staged.cop0.entryHi.extractLsb' 0 8
      ∧ staged.cop0.entryLo0.getLsbD 0 = false := by
  unfold Safety.Matches; decide +kernel

theorem witness_TlbWriteThenTranslate_next : ∃ t, exec .tlbwi staged = .next t := next_of_reached (by decide +kernel)

theorem witness_ReturnFromException :
    cop0Gated (withStatus 0x4#32 inside) = false ∧ statusERL (withStatus 0x4#32 inside).cop0.status = true
      ∧ cop0Gated (withStatus 0x2#32 inside) = false ∧ statusERL (withStatus 0x2#32 inside).cop0.status = false := by
  decide +kernel

theorem witness_SpecialStateWriters :
    (∃ t, exec (.lw 3 1 0) (pointing 0) = .next t) ∧ Instr.lw 3 1 0 ≠ .tlbwi ∧ Instr.lw 3 1 0 ≠ .tlbwr
      ∧ (Instr.lw 3 1 0).cls ≠ .llsc ∧ Instr.lw 3 1 0 ≠ .eret
      ∧ ∀ a, Safety.accessOf (.lw 3 1 0) = some a → a.kind = .load :=
  ⟨next_of_reached (by decide +kernel), by decide, by decide, by decide, by decide, fun a h => by cases h; rfl⟩

theorem witness_Cop1Unusable :
    statusCU1 inside.cop0.status = false ∧ Safety.IsCop1 (.cop1D 0) ∧ Safety.IsCop1 (.bc1tl 0)
      ∧ Safety.IsCop1 (.sdc1 1 2 3) := by
  unfold Safety.IsCop1; decide +kernel

/-- `inside` with the FPU usable and Status.FR set. -/
def usable : State := withStatus 0x24000000#32 (pointing 0)

theorem witness_Cop1MovesAndOperate : statusCU1 usable.cop0.status = true ∧ true = statusFR usable.cop0.status := by
  decide +kernel

theorem witness_Cop1Branches :
    statusCU1 usable.cop0.status = true
      ∧ 0xFFFFFFFF80001000#64 = usable.pc + BitVec.ofInt 64 (4 * (0xFFFF#16 : BitVec 16).toInt) := by
  decide +kernel

theorem witness_Cop1LoadsAndStores :
    statusCU1 usable.cop0.status = true ∧ true = statusFR usable.cop0.status
      ∧ dataAddr .load .word true 1 4 usable = .ok 0x2004#32 ∧ dataAddr .store .word true 1 4 usable = .ok 0x2004#32
      ∧ dataAddr .load .dword true 1 0 usable = .ok 0x2000#32 ∧ dataAddr .store .dword true 1 0 usable = .ok 0x2000#32
      ∧ ∀ n w, w = Width.word ∨ w = Width.dword → (BitVec.ofNat 64 (n % 2 ^ w.bits)).toNat = n % 2 ^ w.bits := by
  refine ⟨by decide +kernel, by decide +kernel, by decide +kernel, by decide +kernel, by decide +kernel,
    by decide +kernel, fun n w h => ?_⟩
  rcases h with rfl | rfl <;> (simp only [Width.bits, Width.bytes, BitVec.toNat_ofNat]; omega)

/-- User code with the gate on, fetching SYSCALL through the TLB from the odd page at 0x1000. -/
def userCode : State :=
  placed 0x0000000C#32 (withStatus 0x10#32
    { here with
      pc := 0x1000#64
      params := { here.params with cop0Gate := true }
      tlb := here.tlb.set 0 ⟨true, 0, 0, 0, true, 0, ⟨0, 0, false, false⟩, ⟨1, 0, false, true⟩⟩ })

theorem witness_UserCannotChangeTheSystem :
    userCode.params.cop0Gate = true ∧ modeOf userCode.cop0.status ≠ some .kernel
      ∧ statusCU0 userCode.cop0.status = false
      ∧ (reached (step userCode)).map (fun t => causeExcCode t.cop0.cause) = some 8#5 := by
  decide +kernel

end Sys2Proof.Tests
end

/-! The state's own obligations (10_state.md R20, R21): the general registers, and who writes and who reads HI and LO.
Outside the multiply and divide class every meaning commutes with replacing HI and LO (`exec_setHiLo`). That one
equation says both that such an instruction does not read them and, taken at the values they already hold, that it does
not write them. -/

namespace Sys2Proof.Proofs

open Sys2Proof.Machine Sys2Proof.Laws

-- General registers.

/-- Settles O10, from the laws of register reads and writes. -/
theorem registersHoldAndZeroDiscards : Obligations.RegistersHoldAndZeroDiscards := fun s _ r v =>
  ⟨readReg_zero s, writeReg_zero v s, fun q => readReg_writeReg r q v s, fun hg => readReg_congr hg r⟩

-- Replacing HI and LO, in a state, in an answer and in an address phase.

/-- An answer with HI and LO of its next state replaced. -/
def answerWithHiLo (h l : DWord) : Result → Result
  | .next t => .next (t.setHiLo h l)
  | .fault f => .fault f
  | .refused r => .refused r

/-- The answer of an address phase with HI and LO of the exception's state replaced. -/
def locatedWithHiLo (h l : DWord) : Located → Located
  | .ok pa => .ok pa
  | .raised t => .raised (t.setHiLo h l)
  | .halted f => .halted f

@[simp] theorem answerWithHiLo_next (h l : DWord) (t : State) :
    answerWithHiLo h l (.next t) = .next (t.setHiLo h l) := rfl

@[simp] theorem answerWithHiLo_fault (h l : DWord) (f : Fault) : answerWithHiLo h l (.fault f) = .fault f := rfl

theorem setHiLo_self (s : State) : s.setHiLo s.hi s.lo = s := rfl

-- Each shared operation commutes with the replacement.

section
variable (h l : DWord) (s : State)

theorem put_setHiLo (r : RegIdx) (v : DWord) : (s.setHiLo h l).put r v = answerWithHiLo h l (s.put r v) := rfl

theorem raiseHere_setHiLo (kind : ExcKind) (cop : BitVec 2) :
    raiseHere kind cop (s.setHiLo h l) = answerWithHiLo h l (raiseHere kind cop s) := rfl

theorem putChecked_setHiLo (b : Bool) (r : RegIdx) (v : DWord) :
    (s.setHiLo h l).putChecked b r v = answerWithHiLo h l (s.putChecked b r v) := by
  cases b <;> rfl

theorem trapIf_setHiLo (b : Bool) : (s.setHiLo h l).trapIf b = answerWithHiLo h l (s.trapIf b) := by
  cases b <;> rfl

theorem locate_setHiLo (kind : Access) (w : Width) (ck : Bool) (va pc : VAddr) :
    locate kind w ck va pc (s.setHiLo h l) = locatedWithHiLo h l (locate kind w ck va pc s) := by
  have hx : xlate kind va (s.setHiLo h l) = xlate kind va s := rfl
  cases hc : ck && !aligned w va with
  | true => simp only [locate, hc, if_true]; rfl
  | false =>
    simp only [locate, State.translate, hc, hx, Bool.false_eq_true, if_false]
    cases xlate kind va s with
    | ok pa => rfl
    | undefinedMode => rfl
    | fail k =>
      dsimp only
      cases excOf k kind <;> rfl

theorem dataAddr_setHiLo (kind : Access) (w : Width) (ck : Bool) (base : RegIdx) (imm : BitVec 16) :
    dataAddr kind w ck base imm (s.setHiLo h l) = locatedWithHiLo h l (dataAddr kind w ck base imm s) :=
  locate_setHiLo h l s kind w ck _ _

theorem storeIfLinked_setHiLo (pa : PAddr) (w : Width) (v : DWord) :
    (s.setHiLo h l).storeIfLinked pa w v = (s.storeIfLinked pa w v).setHiLo h l := by
  simp only [State.storeIfLinked, apply_ite (State.setHiLo h l)]
  rfl

variable {h l s}

theorem withDataAddr_setHiLo {kind : Access} {w : Width} {ck : Bool} {base : RegIdx} {imm : BitVec 16}
    {k k' : PAddr → Result} (hk : ∀ pa, k' pa = answerWithHiLo h l (k pa)) :
    withDataAddr kind w ck base imm (s.setHiLo h l) k' = answerWithHiLo h l (withDataAddr kind w ck base imm s k) := by
  simp only [withDataAddr, dataAddr_setHiLo]
  cases dataAddr kind w ck base imm s with
  | ok pa => exact hk pa
  | raised t => rfl
  | halted f => rfl

theorem withCop0_setHiLo {k k' : Result} (hk : k' = answerWithHiLo h l k) :
    withCop0 (s.setHiLo h l) k' = answerWithHiLo h l (withCop0 s k) := by
  have hg : cop0Gated (s.setHiLo h l) = cop0Gated s := rfl
  cases hs : cop0Gated s with
  | true => rw [withCop0_closed hs, withCop0_closed (hg.trans hs)]; rfl
  | false => rw [withCop0_open hs, withCop0_open (hg.trans hs), hk]

theorem withCop1_setHiLo {k k' : Result} (hk : k' = answerWithHiLo h l k) :
    withCop1 (s.setHiLo h l) k' = answerWithHiLo h l (withCop1 s k) := by
  cases hs : statusCU1 s.cop0.status with
  | true => rw [withCop1_open hs, withCop1_open (s := s.setHiLo h l) hs, hk]
  | false => rw [withCop1_closed hs, withCop1_closed (s := s.setHiLo h l) hs]; rfl

variable (h l s)

theorem storeConditional_setHiLo (w : Width) (rt base : RegIdx) (imm : BitVec 16) :
    (s.setHiLo h l).storeConditional w rt base imm = answerWithHiLo h l (s.storeConditional w rt base imm) :=
  withDataAddr_setHiLo fun _ => by rw [storeIfLinked_setHiLo]; rfl

theorem cop0Write_setHiLo (n : RegIdx) (v : DWord) :
    (s.setHiLo h l).cop0Write n v = answerWithHiLo h l (s.cop0Write n v) := by
  simp only [State.cop0Write, setHiLo_params, setHiLo_cop0]
  cases cop0Number n with
  | reg r => rfl
  | random => rfl
  | unlisted => cases s.params.unlistedWrite <;> rfl

theorem tlbReadIndexed_setHiLo : (s.setHiLo h l).tlbReadIndexed = answerWithHiLo h l s.tlbReadIndexed := by
  simp only [State.tlbReadIndexed, setHiLo_cop0]
  cases tlbSlot (indexField s.cop0) <;> rfl

theorem tlbWriteIndexed_setHiLo : (s.setHiLo h l).tlbWriteIndexed = answerWithHiLo h l s.tlbWriteIndexed := by
  simp only [State.tlbWriteIndexed, setHiLo_cop0]
  cases tlbSlot (indexField s.cop0) <;> rfl

theorem tlbWriteRandom_setHiLo : (s.setHiLo h l).tlbWriteRandom = answerWithHiLo h l s.tlbWriteRandom := by
  simp only [State.tlbWriteRandom, setHiLo_cop0]
  cases tlbSlot (wiredField s.cop0) <;> rfl

theorem fpuReport_setHiLo (c : Config.PortCall) :
    (s.setHiLo h l).fpuReport c = answerWithHiLo h l (s.fpuReport c) := by
  simp only [State.fpuReport, apply_ite (answerWithHiLo h l)]
  rfl

end

-- Instructions.

/-- Outside the multiply and divide class an instruction does with any HI and LO what it does with the present ones, and
hands them on. -/
theorem exec_setHiLo {i : Instr} (hi : i.cls ≠ .muldiv) (s : State) (h l : DWord) :
    exec i (s.setHiLo h l) = answerWithHiLo h l (exec i s) := by
  cases i with
  | mult | multu | div | divu | dmult | dmultu | ddiv | ddivu | mfhi | mthi | mflo | mtlo => exact absurd rfl hi
  | add | sub | addi | dadd | dsub | daddi => exact putChecked_setHiLo ..
  | addu | subu | addiu | daddu | dsubu | daddiu | and | or | xor | nor | andi | ori | xori | lui | slt | sltu | slti
  | sltiu | sll | srl | sra | sllv | srlv | srav | dsll | dsrl | dsra | dsllv | dsrlv | dsrav | dsll32 | dsrl32
  | dsra32 => exact put_setHiLo ..
  | j | jal | jr | jalr | beq | bne | blez | bgtz | beql | bnel | blezl | bgtzl | bltz | bgez | bltzl | bgezl | bltzal
  | bgezal | bltzall | bgezall | cache | sync => rfl
  | lb | lbu | lh | lhu | lw | lwu | ld | lwl | lwr | ldl | ldr | sb | sh | sw | sd | swl | swr | sdl | sdr | ll
  | lld => exact withDataAddr_setHiLo fun _ => rfl
  | sc | scd => exact storeConditional_setHiLo ..
  | tge | tgeu | tlt | tltu | teq | tne | tgei | tgeiu | tlti | tltiu | teqi | tnei => exact trapIf_setHiLo ..
  | syscall | brk => exact raiseHere_setHiLo ..
  | mfc0 | dmfc0 | tlbp | eret => exact withCop0_setHiLo rfl
  | mtc0 | dmtc0 => exact withCop0_setHiLo (cop0Write_setHiLo ..)
  | tlbr => exact withCop0_setHiLo (tlbReadIndexed_setHiLo ..)
  | tlbwi => exact withCop0_setHiLo (tlbWriteIndexed_setHiLo ..)
  | tlbwr => exact withCop0_setHiLo (tlbWriteRandom_setHiLo ..)
  | mfc1 | dmfc1 | cfc1 | bc1f | bc1t | bc1fl | bc1tl => exact withCop1_setHiLo rfl
  | mtc1 | dmtc1 | ctc1 | cop1S | cop1D | cop1W | cop1L => exact withCop1_setHiLo (fpuReport_setHiLo ..)
  | lwc1 | ldc1 | swc1 | sdc1 => exact withCop1_setHiLo (withDataAddr_setHiLo fun _ => rfl)

/-- Outside the class HI and LO are not written: `exec_setHiLo` at the values they hold. -/
theorem exec_keeps_hiLo {i : Instr} (hi : i.cls ≠ .muldiv) {s t : State} (ht : exec i s = .next t) :
    Safety.SameHiLo s t := by
  have he := exec_setHiLo hi s s.hi s.lo
  rw [setHiLo_self, ht, answerWithHiLo_next] at he
  have hs : t = t.setHiLo s.hi s.lo := Host.Outcome.next.inj he
  rw [hs]
  exact ⟨rfl, rfl⟩

/-- MFHI and MFLO write a general register alone. -/
theorem moveFrom_keeps_hiLo {i : Instr} {r : RegIdx} (hi : i = .mfhi r ∨ i = .mflo r) {s t : State}
    (ht : exec i s = .next t) : Safety.SameHiLo s t := by
  rcases hi with rfl | rfl <;> cases ht <;> exact ⟨rfl, rfl⟩

/-- The rest of the class: the one effect is on HI and LO, and each is afterwards what the instruction writes to it,
whatever the two held, or what it held. -/
theorem exec_muldiv_writer {i : Instr} (hc : i.cls = .muldiv) (hr : ∀ r, i ≠ .mfhi r ∧ i ≠ .mflo r) (s : State)
    (h l : DWord) : ∃ a b h' l', exec i s = .next (s.setHiLo a b) ∧ (h' = a ∨ h' = h) ∧ (l' = b ∨ l' = l)
      ∧ exec i (s.setHiLo h l) = .next (s.setHiLo h' l') := by
  cases i with
  | mult | multu | div | divu | dmult | dmultu | ddiv | ddivu => exact ⟨_, _, _, _, rfl, .inl rfl, .inl rfl, rfl⟩
  | mthi => exact ⟨_, s.lo, _, l, rfl, .inl rfl, .inr rfl, rfl⟩
  | mtlo => exact ⟨s.hi, _, h, _, rfl, .inr rfl, .inl rfl, rfl⟩
  | mfhi r => exact absurd rfl (hr r).1
  | mflo r => exact absurd rfl (hr r).2
  | _ => cases hc

/-- Settles O20: outside the multiply and divide class by commutation with the replacement of HI and LO, inside it by
the writers' own effect. -/
theorem hiLoWritersAndReaders : Obligations.HiLoWritersAndReaders := by
  intro i s h l
  refine ⟨fun hw t ht => ?_, fun hr => ?_⟩
  · rcases hw with hi | ⟨r, hi⟩
    · exact exec_keeps_hiLo hi ht
    · exact moveFrom_keeps_hiLo hi ht
  · by_cases hc : i.cls = .muldiv
    · obtain ⟨a, b, h', l', hs, hh, hl, hn⟩ := exec_muldiv_writer hc hr s h l
      refine ⟨fun t ht => ?_, fun f hf => ?_⟩
      · obtain rfl : s.setHiLo a b = t := Host.Outcome.next.inj (hs.symm.trans ht)
        exact ⟨h', l', hh, hl, hn⟩
      · rw [hs] at hf
        cases hf
    · have he := exec_setHiLo hc s h l
      refine ⟨fun t ht => ⟨h, l, .inr rfl, .inr rfl, ?_⟩, fun f hf => ?_⟩
      · rwa [ht, answerWithHiLo_next] at he
      · rwa [hf, answerWithHiLo_fault] at he

end Sys2Proof.Proofs

/-! Translation's obligations (20_memory.md R105, R106, R110, R112, R113): what a translation writes, the permissions of
a TLB half, and the kernel's unmapped segments. The base of a direct segment has the segment's bits 31:29 over zeros,
so taking the base off an address leaves bits 28:0, in both addressing widths. -/

namespace Sys2Proof.Proofs

open Sys2Proof.Machine Sys2Proof.Laws

-- What a translation writes (R112, R113).

theorem tlbErrorAfter_of_not_fail {x : Xlate} (h : ∀ k, x ≠ .fail k) (old : Option TlbFail) :
    tlbErrorAfter x old = old := by
  cases x with
  | fail k => exact absurd rfl (h k)
  | ok pa => rfl
  | undefinedMode => rfl

theorem translate_of_ok {s : State} {kind : Access} {va : VAddr} {pa : PAddr} (h : xlate kind va s = .ok pa) :
    s.translate kind va = (.ok pa, s) := by
  rw [State.translate, h]
  rfl

theorem translate_of_fail {s : State} {kind : Access} {va : VAddr} {k : TlbFail} (h : xlate kind va s = .fail k) :
    s.translate kind va = (.fail k, { s with tlbError := some k }) := by
  rw [State.translate, h]
  rfl

/-- Settles O35, from what the latch holds after each answer. -/
theorem translateWritesOnlyTheLatch : Obligations.TranslateWritesOnlyTheLatch := by
  intro s t kind va x h
  obtain ⟨rfl, rfl⟩ : xlate kind va s = x ∧ (s.translate kind va).2 = t := Prod.mk.inj h
  refine ⟨rfl, rfl, rfl, fun k hk => ?_, fun hn => ?_⟩
  · rw [translate_of_fail hk]
  · rw [translate_tlbError, tlbErrorAfter_of_not_fail hn]

-- The permissions of a half (R110).

section
variable {e : TlbEntry} {va : VAddr}

theorem tlbAccess_invalid (hv : (e.half va).v = false) (kind : Access) : tlbAccess kind e va = .fail .invalid := by
  simp [tlbAccess, hv]

theorem tlbAccess_clean (hv : (e.half va).v = true) (hd : (e.half va).d = false) :
    tlbAccess .store e va = .fail .modification := by
  simp [tlbAccess, hv, hd]

/-- A valid half gives its frame to a load, and to a store when it is dirty. -/
theorem tlbAccess_ok {kind : Access} (hv : (e.half va).v = true) (hd : kind = .store → (e.half va).d = true) :
    tlbAccess kind e va = .ok (framePA (e.half va).pfn e.mask va) := by
  cases kind with
  | load => simp [tlbAccess, hv]
  | store => simp [tlbAccess, hv, hd rfl]

end

/-- Settles O34, from the three outcomes of an access to a half. -/
theorem halfPermissions : Obligations.HalfPermissions := fun kind _ _ =>
  ⟨fun hv => tlbAccess_invalid hv kind, tlbAccess_clean, fun hv => ⟨_, tlbAccess_ok hv nofun⟩,
    fun hv hd => ⟨_, tlbAccess_ok hv fun _ => hd⟩⟩

-- The kernel's unmapped segments (R103 to R106).

theorem is64_of_mode {st : Word} {m : Mode} (h : modeOf st = some m) : is64 st = wideIn st m := by
  simp only [is64, h]

section
variable {s : State} {m : Mode} {va : VAddr}

theorem xlate_direct (hm : modeOf s.cop0.status = some m) {base : VAddr}
    (hs : segmentOf (is64 s.cop0.status) m va = .direct base) (kind : Access) :
    xlate kind va s = .ok (directPA (effectiveVA (is64 s.cop0.status) va) base) := by
  rw [is64_of_mode hm] at hs ⊢
  simp only [xlate, hm, xlateIn, hs]

theorem xlate_xkphys (hm : modeOf s.cop0.status = some m) (hs : segmentOf (is64 s.cop0.status) m va = .xkphys)
    (kind : Access) : xlate kind va s = xkphysPA va := by
  rw [is64_of_mode hm] at hs
  simp only [xlate, hm, xlateIn, hs]

end

/-- A field as arithmetic: the bridge from the statements' bit fields to `omega`. -/
theorem extractLsb'_eq_iff {w : Nat} (x : BitVec w) (k n : Nat) (f : BitVec n) :
    x.extractLsb' k n = f ↔ x.toNat / 2 ^ k % 2 ^ n = f.toNat := by
  rw [← BitVec.toNat_inj, BitVec.extractLsb'_toNat, Nat.shiftRight_eq_div_pow]

/-- In 32-bit addressing the address looked up keeps the low word, sign-extended (R102). -/
theorem low32_effectiveVA (wide : Bool) (va : VAddr) : low32 (effectiveVA wide va) = low32 va := by
  cases wide with
  | true => rfl
  | false =>
    apply BitVec.eq_of_getLsbD_eq
    intro i hi
    have hi' : i < 64 := Nat.lt_trans hi (by decide)
    simp only [effectiveVA, sext, low32, Bool.false_eq_true, if_false, BitVec.getLsbD_setWidth,
      BitVec.getLsbD_signExtend, hi, hi', decide_true, if_true, Bool.true_and]

/-- A base with the address's own bits 31:29 over zeros leaves bits 28:0. -/
theorem directPA_eq_low29 {eva base va : VAddr} (he : low32 eva = low32 va)
    (htop : base.extractLsb' 29 3 = va.extractLsb' 29 3) (hlow : base.extractLsb' 0 29 = 0#29) :
    directPA eva base = (va.extractLsb' 0 29).setWidth 32 := by
  have he' : eva.toNat % 2 ^ 32 = va.toNat % 2 ^ 32 := by simpa [low32] using congrArg BitVec.toNat he
  rw [extractLsb'_eq_iff, BitVec.extractLsb'_toNat, Nat.shiftRight_eq_div_pow] at htop
  rw [extractLsb'_eq_iff, BitVec.toNat_ofNat] at hlow
  apply BitVec.eq_of_toNat_eq
  simp only [directPA, BitVec.toNat_setWidth, BitVec.toNat_sub, BitVec.extractLsb'_toNat, Nat.shiftRight_zero]
  omega

theorem low32_top (va : VAddr) : (low32 va).extractLsb' 29 3 = va.extractLsb' 29 3 := by
  rw [extractLsb'_eq_iff, BitVec.extractLsb'_toNat, Nat.shiftRight_eq_div_pow, low32, BitVec.toNat_setWidth]
  omega

theorem seg64Kernel_xkphys {va : VAddr} (h : va.extractLsb' 62 2 = 0b10#2) : seg64Kernel va = .xkphys := by
  rw [extractLsb'_eq_iff, BitVec.toNat_ofNat] at h
  unfold seg64Kernel
  iterate 4 rw [if_neg (by bv_omega)]
  rw [if_pos (by bv_omega)]

section
variable {va : VAddr} (hhi : va.extractLsb' 32 32 = 0xFFFFFFFF#32)
include hhi

theorem seg64Kernel_kseg0 (htop : va.extractLsb' 29 3 = 0b100#3) : seg64Kernel va = .direct kseg0Base := by
  rw [extractLsb'_eq_iff, BitVec.toNat_ofNat] at hhi htop
  unfold seg64Kernel
  iterate 7 rw [if_neg (by bv_omega)]
  rw [if_pos (by bv_omega)]

theorem seg64Kernel_kseg1 (htop : va.extractLsb' 29 3 = 0b101#3) : seg64Kernel va = .direct kseg1Base := by
  rw [extractLsb'_eq_iff, BitVec.toNat_ofNat] at hhi htop
  unfold seg64Kernel
  iterate 8 rw [if_neg (by bv_omega)]
  rw [if_pos (by bv_omega)]

end

/-- In both widths the base of the kernel's direct segment has the address's bits 31:29 over zeros. -/
theorem segmentOf_kernel_direct {wide : Bool} {va : VAddr} (hhi : wide = true → va.extractLsb' 32 32 = 0xFFFFFFFF#32)
    (htop : va.extractLsb' 29 3 = 0b100#3 ∨ va.extractLsb' 29 3 = 0b101#3) :
    ∃ base, segmentOf wide .kernel va = .direct base ∧ base.extractLsb' 29 3 = va.extractLsb' 29 3
      ∧ base.extractLsb' 0 29 = 0#29 := by
  rcases htop with ht | ht
  · refine ⟨kseg0Base, ?_, ht ▸ by decide, by decide⟩
    cases wide with
    | false => simp only [segmentOf, seg32, low32_top, ht, Bool.false_eq_true, if_false]
    | true => exact seg64Kernel_kseg0 (hhi rfl) ht
  · refine ⟨kseg1Base, ?_, ht ▸ by decide, by decide⟩
    cases wide with
    | false => simp only [segmentOf, seg32, low32_top, ht, Bool.false_eq_true, if_false]
    | true => exact seg64Kernel_kseg1 (hhi rfl) ht

section
variable {s : State} {va : VAddr} (hm : modeOf s.cop0.status = some .kernel)
include hm

/-- kseg0 and kseg1 in both widths: bits 28:0, and nothing written. -/
theorem translate_kernel_direct (hhi : is64 s.cop0.status = true → va.extractLsb' 32 32 = 0xFFFFFFFF#32)
    (htop : va.extractLsb' 29 3 = 0b100#3 ∨ va.extractLsb' 29 3 = 0b101#3) (kind : Access) :
    s.translate kind va = (.ok ((va.extractLsb' 0 29).setWidth 32), s) := by
  obtain ⟨base, hseg, hbase, hlow⟩ := segmentOf_kernel_direct hhi htop
  have hpa := directPA_eq_low29 (low32_effectiveVA (is64 s.cop0.status) va) hbase hlow
  exact translate_of_ok (hpa ▸ xlate_direct hm hseg kind)

theorem xlate_kernel_xkphys (hw : is64 s.cop0.status = true) (hr : va.extractLsb' 62 2 = 0b10#2) (kind : Access) :
    xlate kind va s = xkphysPA va :=
  xlate_xkphys hm (by rw [hw]; exact seg64Kernel_xkphys hr) kind

end

/-- Settles O31: the direct segments by their base, xkphys by bits 58:32. -/
theorem unmappedSegments : Obligations.UnmappedSegments := by
  intro s kind va hm
  refine ⟨fun hw htop => ?narrow, fun _ hhi htop => ?wide, ?kseg0, ?kseg1, fun hw hr h0 => ?xkphys,
    fun hw hr hn => ?malformed⟩
  case narrow => exact translate_kernel_direct hm (fun h => absurd (hw.symm.trans h) Bool.false_ne_true) htop kind
  case wide => exact translate_kernel_direct hm (fun _ => hhi) htop kind
  case kseg0 => exact translate_kernel_direct hm (fun _ => by decide) (.inl (by decide)) kind
  case kseg1 => exact translate_kernel_direct hm (fun _ => by decide) (.inr (by decide)) kind
  case xkphys => exact translate_of_ok ((xlate_kernel_xkphys hm hw hr kind).trans (if_pos h0))
  case malformed => exact translate_of_fail ((xlate_kernel_xkphys hm hw hr kind).trans (if_neg hn))

end Sys2Proof.Proofs

/-! The external interrupt lines (60_exceptions.md R480): each line's mask in `Cause.IP` is one bit of Cause, and an
exception entry (R470) writes BD, ExcCode and CE of Cause, never IP. -/

namespace Sys2Proof.Proofs

open Sys2Proof.Machine Sys2Proof.Laws

-- The lines and their bits.

/-- Each external line `IP[n]` with its bit `8 + n` of Cause (R42, R480). -/
def externalLines : List (IrqLine × Nat) := [(.ip2, 10), (.ip3, 11), (.ip4, 12), (.ip5, 13), (.ip6, 14)]

/-- A line's mask in the IP field, put at bits 15:8 of Cause, is that line's one bit. -/
theorem lineMask_in_cause : ∀ p ∈ externalLines, p.1.bit.setWidth 32 <<< 8 = 1#32 <<< p.2 := by decide

section
variable {n : IrqLine} {b : Nat}

theorem causeSetIP_line (h : (n, b) ∈ externalLines) (c : Word) : causeSetIP n.bit c = c ||| (1#32 <<< b) :=
  congrArg (c ||| ·) (lineMask_in_cause (n, b) h)

theorem causeClearIP_line (h : (n, b) ∈ externalLines) (c : Word) : causeClearIP n.bit c = c &&& ~~~(1#32 <<< b) :=
  congrArg (c &&& ~~~ ·) (lineMask_in_cause (n, b) h)

end

-- The events of a line write Cause alone.

theorem applyEvent_irqSet (n : IrqLine) (s : State) :
    s.applyEvent (.irqSet n) = { s with cop0 := { s.cop0 with cause := causeSetIP n.bit s.cop0.cause } } := rfl

theorem applyEvent_irqClear (n : IrqLine) (s : State) :
    s.applyEvent (.irqClear n) = { s with cop0 := { s.cop0 with cause := causeClearIP n.bit s.cop0.cause } } := rfl

-- The pending bits across an exception entry.

/-- No exception entry, nested or not, changes a pending bit. -/
theorem causeIP_raise (c : Cop0) (kind : ExcKind) (cop : BitVec 2) (pc : VAddr) (d : Bool) :
    causeIP (c.raise kind cop pc d).cause = causeIP c.cause := by
  cases h : statusEXL c.status with
  | true => rw [raise_exl h, causeIP_withCode]
  | false => rw [raise_noexl h, causeIP_withCode, causeIP_withBD]

/-- Bits 15:8 of Cause are read through the IP field. -/
theorem getLsbD_causeIP {c : Word} {k : Nat} (hlo : 8 ≤ k) (hhi : k < 16) :
    (causeIP c).getLsbD (k - 8) = c.getLsbD k := by
  rw [causeIP, BitVec.getLsbD_extractLsb', Nat.add_sub_cancel' hlo, decide_eq_true (by omega), Bool.true_and]

/-- Settles O26, from each line's one bit of Cause and the IP field an exception entry keeps. -/
theorem interruptLines : Obligations.InterruptLines := by
  intro s pc d k
  refine ⟨fun n b h => ⟨?set, ?clear⟩, fun hlo hhi => ?taken⟩
  case set => rw [applyEvent_irqSet, causeSetIP_line h]
  case clear => rw [applyEvent_irqClear, causeClearIP_line h]
  case taken => rw [raise_cop0, ← getLsbD_causeIP hlo hhi, causeIP_raise, getLsbD_causeIP hlo hhi]

end Sys2Proof.Proofs

/-! The encoding's obligations (30_encoding.md R161 to R172). The decoder's tables are followed format by format: a
word is the format's word of its own fields (`word_eq_encR` and its like), so each table slot is decided by the
fields the row fixes, and the ignored bits of R171 are the fields a care mask drops. -/

namespace Sys2Proof.Proofs

open Sys2Proof.Machine Sys2Proof.Laws

-- The format words reach their tables.

theorem decode_encR (rs rt rd sa : BitVec 5) (f : BitVec 6) :
    decode (encR rs rt rd sa f) = decodeSpecial f (encR rs rt rd sa f) := by
  rw [decode, opField_encR, decode_special, functField_encR]

theorem decode_encTrap (rs rt : BitVec 5) (code : BitVec 10) (f : BitVec 6) :
    decode (encTrap rs rt code f) = decodeSpecial f (encTrap rs rt code f) := by
  rw [decode, opField_encTrap, decode_special, functField_encTrap]

theorem decode_encCode (code : BitVec 20) (f : BitVec 6) :
    decode (encCode code f) = decodeSpecial f (encCode code f) := by
  rw [decode, opField_encCode, decode_special, functField_encCode]

theorem decode_encI (op : BitVec 6) (rs rt : BitVec 5) (imm : BitVec 16) :
    decode (encI op rs rt imm) = decodeOp op (encI op rs rt imm) := by
  rw [decode, opField_encI]

theorem decode_encJ (op : BitVec 6) (target : BitVec 26) :
    decode (encJ op target) = decodeOp op (encJ op target) := by
  rw [decode, opField_encJ]

theorem decode_encRI (rs sub : BitVec 5) (imm : BitVec 16) :
    decode (encRI rs sub imm) = decodeRegimm sub (encRI rs sub imm) := by
  rw [decode, opField_encRI, decode_regimm, rtField_encRI]

theorem decode_encCM0 (sub rt rd : BitVec 5) (low : BitVec 11) :
    decode (encCM 0x10#6 sub rt rd low) = decodeCop0 sub (encCM 0x10#6 sub rt rd low) := by
  rw [decode, opField_encCM, decode_cop0, rsField_encCM]

theorem decode_encCM1 (sub rt rd : BitVec 5) (low : BitVec 11) :
    decode (encCM 0x11#6 sub rt rd low) = decodeCop1 sub (encCM 0x11#6 sub rt rd low) := by
  rw [decode, opField_encCM, decode_cop1, rsField_encCM]

theorem decode_encCO (f : BitVec 6) : decode (encCO f) = decodeCop0Function f := by
  rw [decode, opField_encCO, decode_cop0, rsField_encCO, decodeCop0_function (bit25_encCO f), functField_encCO]

theorem decode_encCB (cond : BitVec 5) (imm : BitVec 16) :
    decode (encCB cond imm) = decodeBc1 cond (encCB cond imm) := by
  rw [decode, opField_encCB, decode_cop1, rsField_encCB, decodeCop1_bc1, rtField_encCB]

theorem decode_encCF (fmt : BitVec 5) (fn : BitVec 21) :
    decode (encCF fmt fn) = decodeCop1 fmt (encCF fmt fn) := by
  rw [decode, opField_encCF, decode_cop1, rsField_encCF]

/-- Every instruction comes back from its own word: its format reaches its slot, and the slot reads its operands. -/
theorem decode_encode (i : Instr) : decode (encode i) = .ok i := by
  cases i with
  | add | addu | sub | subu | dadd | daddu | dsub | dsubu | and | or | xor | nor | slt | sltu | sll | srl | sra | sllv
  | srlv | srav | dsll | dsrl | dsra | dsllv | dsrlv | dsrav | dsll32 | dsrl32 | dsra32 | mult | multu | div | divu
  | dmult | dmultu | ddiv | ddivu | mfhi | mthi | mflo | mtlo | jr | jalr | sync =>
    simp only [encode, decode_encR, decodeSpecial_add, decodeSpecial_addu, decodeSpecial_sub, decodeSpecial_subu,
      decodeSpecial_dadd, decodeSpecial_daddu, decodeSpecial_dsub, decodeSpecial_dsubu, decodeSpecial_and,
      decodeSpecial_or, decodeSpecial_xor, decodeSpecial_nor, decodeSpecial_slt, decodeSpecial_sltu,
      decodeSpecial_sll, decodeSpecial_srl, decodeSpecial_sra, decodeSpecial_sllv, decodeSpecial_srlv,
      decodeSpecial_srav, decodeSpecial_dsll, decodeSpecial_dsrl, decodeSpecial_dsra, decodeSpecial_dsllv,
      decodeSpecial_dsrlv, decodeSpecial_dsrav, decodeSpecial_dsll32, decodeSpecial_dsrl32, decodeSpecial_dsra32,
      decodeSpecial_mult, decodeSpecial_multu, decodeSpecial_div, decodeSpecial_divu, decodeSpecial_dmult,
      decodeSpecial_dmultu, decodeSpecial_ddiv, decodeSpecial_ddivu, decodeSpecial_mfhi, decodeSpecial_mthi,
      decodeSpecial_mflo, decodeSpecial_mtlo, decodeSpecial_jr, decodeSpecial_jalr, decodeSpecial_sync, rsField_encR,
      rtField_encR, rdField_encR, saField_encR]
  | tge | tgeu | tlt | tltu | teq | tne =>
    simp only [encode, decode_encTrap, decodeSpecial_tge, decodeSpecial_tgeu, decodeSpecial_tlt,
      decodeSpecial_tltu, decodeSpecial_teq, decodeSpecial_tne, rsField_encTrap, rtField_encTrap, code10Field_encTrap]
  | syscall | brk =>
    simp only [encode, decode_encCode, decodeSpecial_syscall, decodeSpecial_brk, code20Field_encCode]
  | addi | addiu | daddi | daddiu | andi | ori | xori | lui | slti | sltiu | beq | bne | blez | bgtz | beql | bnel
  | blezl | bgtzl | lb | lbu | lh | lhu | lw | lwu | ld | lwl | lwr | ldl | ldr | sb | sh | sw | sd | swl | swr | sdl
  | sdr | ll | lld | sc | scd | cache | lwc1 | ldc1 | swc1 | sdc1 =>
    simp only [encode, decode_encI, decode_addi, decode_addiu, decode_daddi, decode_daddiu, decode_andi,
      decode_ori, decode_xori, decode_lui, decode_slti, decode_sltiu, decode_beq, decode_bne, decode_blez,
      decode_bgtz, decode_beql, decode_bnel, decode_blezl, decode_bgtzl, decode_lb, decode_lbu, decode_lh, decode_lhu,
      decode_lw, decode_lwu, decode_ld, decode_lwl, decode_lwr, decode_ldl, decode_ldr, decode_sb, decode_sh,
      decode_sw, decode_sd, decode_swl, decode_swr, decode_sdl, decode_sdr, decode_ll, decode_lld, decode_sc,
      decode_scd, decode_cache, decode_lwc1, decode_ldc1, decode_swc1, decode_sdc1, rsField_encI, rtField_encI,
      immField_encI]
  | j | jal => simp only [encode, decode_encJ, decode_j, decode_jal, targetField_encJ]
  | bltz | bgez | bltzl | bgezl | bltzal | bgezal | bltzall | bgezall | tgei | tgeiu | tlti | tltiu | teqi | tnei =>
    simp only [encode, decode_encRI, decodeRegimm_bltz, decodeRegimm_bgez, decodeRegimm_bltzl, decodeRegimm_bgezl,
      decodeRegimm_bltzal, decodeRegimm_bgezal, decodeRegimm_bltzall, decodeRegimm_bgezall, decodeRegimm_tgei,
      decodeRegimm_tgeiu, decodeRegimm_tlti, decodeRegimm_tltiu, decodeRegimm_teqi, decodeRegimm_tnei, rsField_encRI,
      immField_encRI]
  | mfc0 | dmfc0 | mtc0 | dmtc0 =>
    simp only [encode, decode_encCM0, decodeCop0_mfc0, decodeCop0_dmfc0, decodeCop0_mtc0, decodeCop0_dmtc0,
      rtField_encCM, rdField_encCM]
  | mfc1 | dmfc1 | cfc1 | mtc1 | dmtc1 | ctc1 =>
    simp only [encode, decode_encCM1, decodeCop1_mfc1, decodeCop1_dmfc1, decodeCop1_cfc1, decodeCop1_mtc1,
      decodeCop1_dmtc1, decodeCop1_ctc1, rtField_encCM, rdField_encCM, lowField_encCM]
  | tlbr | tlbwi | tlbwr | tlbp | eret => exact decode_encCO _
  | bc1f | bc1t | bc1fl | bc1tl =>
    simp only [encode, decode_encCB, decodeBc1_bc1f, decodeBc1_bc1t, decodeBc1_bc1fl, decodeBc1_bc1tl,
      immField_encCB]
  | cop1S | cop1D | cop1W | cop1L =>
    simp only [encode, decode_encCF, decodeCop1_cop1S, decodeCop1_cop1D, decodeCop1_cop1W, decodeCop1_cop1L,
      copFnField_encCF]

/-- Every instruction's word selects its own row. -/
theorem encode_row (i : Instr) : encode i &&& i.row.mask = i.row.value := by
  cases i with
  | add | addu | sub | subu | dadd | daddu | dsub | dsubu | and | or | xor | nor | slt | sltu | sll | srl | sra | sllv
  | srlv | srav | dsll | dsrl | dsra | dsllv | dsrlv | dsrav | dsll32 | dsrl32 | dsra32 | mult | multu | div | divu
  | dmult | dmultu | ddiv | ddivu | mfhi | mthi | mflo | mtlo | jr | jalr | sync => exact encR_masked ..
  | tge | tgeu | tlt | tltu | teq | tne => exact encTrap_masked ..
  | syscall | brk => exact encCode_masked ..
  | addi | addiu | daddi | daddiu | andi | ori | xori | lui | slti | sltiu | beq | bne | blez | bgtz | beql | bnel
  | blezl | bgtzl | lb | lbu | lh | lhu | lw | lwu | ld | lwl | lwr | ldl | ldr | sb | sh | sw | sd | swl | swr | sdl
  | sdr | ll | lld | sc | scd | cache | lwc1 | ldc1 | swc1 | sdc1 => exact encI_masked ..
  | j | jal => exact encJ_masked ..
  | bltz | bgez | bltzl | bgezl | bltzal | bgezal | bltzall | bgezall | tgei | tgeiu | tlti | tltiu | teqi | tnei =>
    exact encRI_masked ..
  | mfc0 | dmfc0 | mtc0 | dmtc0 | mfc1 | dmfc1 | cfc1 | mtc1 | dmtc1 | ctc1 => exact encCM_masked ..
  | tlbr | tlbwi | tlbwr | tlbp | eret => rfl
  | bc1f | bc1t | bc1fl | bc1tl => exact encCB_masked ..
  | cop1S | cop1D | cop1W | cop1L => exact encCF_masked ..

/-- Settles O1, format by format. -/
theorem decodeOfEncode : Obligations.DecodeOfEncode := fun i _ => ⟨decode_encode i, encode_row i⟩


-- A word is the format's word of its own fields.

/-- Two neighbouring fields of a word, side by side, are one field. -/
theorem extract_append {w : Nat} (x : BitVec w) (k n m : Nat) :
    x.extractLsb' (k + n) m ++ x.extractLsb' k n = x.extractLsb' k (m + n) :=
  BitVec.extractLsb'_append_extractLsb'_eq_extractLsb' rfl

theorem encI_fields {w : Word} {op : BitVec 6} (h : opField w = op) :
    encI op (rsField w) (rtField w) (immField w) = w := by
  subst h
  simp only [encI, opField, rsField, rtField, immField]
  rw [extract_append w 21 5 6, extract_append w 16 5 11, extract_append w 0 16 16, BitVec.extractLsb'_eq_self]

theorem encCM_fields {w : Word} {op : BitVec 6} {sub : BitVec 5} (h : opField w = op) (hs : rsField w = sub) :
    encCM op sub (rtField w) (rdField w) (lowField w) = w := by
  subst h hs
  simp only [encCM, opField, rsField, rtField, rdField, lowField]
  rw [extract_append w 21 5 6, extract_append w 16 5 11, extract_append w 11 5 16, extract_append w 0 11 21,
    BitVec.extractLsb'_eq_self]

theorem encJ_fields {w : Word} {op : BitVec 6} (h : opField w = op) : encJ op (targetField w) = w := by
  subst h
  simp only [encJ, opField, targetField]
  rw [extract_append w 0 26 6, BitVec.extractLsb'_eq_self]

theorem encCF_fields {w : Word} {fmt : BitVec 5} (h : opField w = 0x11#6) (hf : rsField w = fmt) :
    encCF fmt (copFnField w) = w := by
  rw [encCF, ← h, ← hf]
  simp only [opField, rsField, copFnField]
  rw [extract_append w 21 5 6, extract_append w 0 21 11, BitVec.extractLsb'_eq_self]

theorem encRI_fields {w : Word} {sub : BitVec 5} (h : opField w = 0x01#6) (hs : rtField w = sub) :
    encRI (rsField w) sub (immField w) = w :=
  hs ▸ encI_fields h

theorem encCB_fields {w : Word} {cond : BitVec 5} (h : opField w = 0x11#6) (hb : rsField w = 0x08#5)
    (hc : rtField w = cond) : encCB cond (immField w) = w := by
  have hw := encI_fields h
  rwa [hb, hc] at hw

section
variable {w : Word} {f : BitVec 6} (h : opField w = 0#6) (hf : functField w = f)
include h hf

theorem encR_fields : encR (rsField w) (rtField w) (rdField w) (saField w) f = w := by
  rw [encR, ← h, ← hf]
  simp only [opField, rsField, rtField, rdField, saField, functField]
  rw [extract_append w 21 5 6, extract_append w 16 5 11, extract_append w 11 5 16, extract_append w 6 5 21,
    extract_append w 0 6 26, BitVec.extractLsb'_eq_self]

theorem encTrap_fields : encTrap (rsField w) (rtField w) (code10Field w) f = w := by
  rw [encTrap, ← h, ← hf]
  simp only [opField, rsField, rtField, code10Field, functField]
  rw [extract_append w 21 5 6, extract_append w 16 5 11, extract_append w 6 10 16, extract_append w 0 6 26,
    BitVec.extractLsb'_eq_self]

theorem encCode_fields : encCode (code20Field w) f = w := by
  rw [encCode, ← h, ← hf]
  simp only [opField, code20Field, functField]
  rw [extract_append w 6 20 6, extract_append w 0 6 26, BitVec.extractLsb'_eq_self]

end

-- The ignored bits (R171): what a care mask leaves of a word, field by field.

theorem care_all (w : Word) : w &&& 0xFFFFFFFF#32 = w := BitVec.and_allOnes

theorem and_ones5 (x : BitVec 5) : x &&& 31#5 = x := and_kept x

section
variable {w : Word} {f : BitVec 6} (h : opField w = 0#6) (hf : functField w = f)
include h hf

/-- A mask over a word of format R that keeps `op` and `funct`. -/
theorem encR_and (a b c d : BitVec 5) :
    w &&& (0x3F#6 ++ a ++ b ++ c ++ d ++ 0x3F#6) =
      encR (rsField w &&& a) (rtField w &&& b) (rdField w &&& c) (saField w &&& d) f := by
  have hw := and_parts (and_parts (and_parts (and_parts (and_parts (x := 0x00#6) (x' := 0x3F#6) rfl
    (Eq.refl (rsField w &&& a))) (Eq.refl (rtField w &&& b))) (Eq.refl (rdField w &&& c)))
    (Eq.refl (saField w &&& d))) (and_kept f)
  exact (congrArg (· &&& _) (encR_fields h hf).symm).trans hw

theorem care_rs_rt_rd : w &&& 0xFFFFF83F#32 = encR (rsField w) (rtField w) (rdField w) 0#5 f :=
  (encR_and h hf 31#5 31#5 31#5 0#5).trans (by simp only [and_ones5, and_dropped])

theorem care_rt_rd_sa : w &&& 0xFC1FFFFF#32 = encR 0#5 (rtField w) (rdField w) (saField w) f :=
  (encR_and h hf 0#5 31#5 31#5 31#5).trans (by simp only [and_ones5, and_dropped])

theorem care_rs_rt : w &&& 0xFFFF003F#32 = encR (rsField w) (rtField w) 0#5 0#5 f :=
  (encR_and h hf 31#5 31#5 0#5 0#5).trans (by simp only [and_ones5, and_dropped])

theorem care_rs_rd : w &&& 0xFFE0F83F#32 = encR (rsField w) 0#5 (rdField w) 0#5 f :=
  (encR_and h hf 31#5 0#5 31#5 0#5).trans (by simp only [and_ones5, and_dropped])

theorem care_rs : w &&& 0xFFE0003F#32 = encR (rsField w) 0#5 0#5 0#5 f :=
  (encR_and h hf 31#5 0#5 0#5 0#5).trans (by simp only [and_ones5, and_dropped])

theorem care_rd : w &&& 0xFC00F83F#32 = encR 0#5 0#5 (rdField w) 0#5 f :=
  (encR_and h hf 0#5 0#5 31#5 0#5).trans (by simp only [and_ones5, and_dropped])

theorem care_funct : w &&& 0xFC00003F#32 = encR 0#5 0#5 0#5 0#5 f :=
  (encR_and h hf 0#5 0#5 0#5 0#5).trans (by simp only [and_dropped])

end

section
variable {w : Word} {op : BitVec 6} (h : opField w = op)
include h

/-- A mask over a word of format I that keeps `op` and the immediate. -/
theorem encI_and (a b : BitVec 5) :
    w &&& (0x3F#6 ++ a ++ b ++ 0xFFFF#16) = encI op (rsField w &&& a) (rtField w &&& b) (immField w) := by
  have hw := and_parts (and_parts (and_parts (and_kept op) (Eq.refl (rsField w &&& a)))
    (Eq.refl (rtField w &&& b))) (and_kept (immField w))
  exact (congrArg (· &&& _) (encI_fields h).symm).trans hw

theorem care_rt_imm : w &&& 0xFC1FFFFF#32 = encI op 0#5 (rtField w) (immField w) :=
  (encI_and h 0#5 31#5).trans (by simp only [and_ones5, and_dropped])

theorem care_rs_imm : w &&& 0xFFE0FFFF#32 = encI op (rsField w) 0#5 (immField w) :=
  (encI_and h 31#5 0#5).trans (by simp only [and_ones5, and_dropped])

theorem care_rt_rd {sub : BitVec 5} (hs : rsField w = sub) :
    w &&& 0xFFFFF800#32 = encCM op sub (rtField w) (rdField w) 0#11 := by
  have hw := and_parts (and_parts (and_parts (and_parts (and_kept op) (and_kept sub)) (and_kept (rtField w)))
    (and_kept (rdField w))) (and_dropped (lowField w))
  exact (congrArg (· &&& _) (encCM_fields h hs).symm).trans hw

end

/-- The rows of COP0 with bit 25 set read no other bit but `op` and `funct` (R168). -/
theorem care_function {w : Word} {f : BitVec 6} (h : opField w = 0x10#6) (hb : w.getLsbD 25 = true)
    (hf : functField w = f) : w &&& 0xFE00003F#32 = encCO f := by
  have hb' : w.extractLsb' 25 1 = 1#1 := by
    apply BitVec.eq_of_getLsbD_eq
    simpa [BitVec.getLsbD_extractLsb'] using hb
  have hw : 0x10#6 ++ 1#1 ++ w.extractLsb' 6 19 ++ f = w := by
    rw [← h, ← hb', ← hf]
    simp only [opField, functField]
    rw [extract_append w 25 1 6, extract_append w 6 19 7, extract_append w 0 6 26, BitVec.extractLsb'_eq_self]
  have hm : (0x10#6 ++ 1#1 ++ w.extractLsb' 6 19 ++ f) &&& (0x3F#6 ++ 1#1 ++ 0#19 ++ 0x3F#6)
      = 0x10#6 ++ 1#1 ++ 0#19 ++ f := and_parts (and_parts (by decide) (and_dropped _)) (and_kept f)
  have hc : 0x10#6 ++ 1#1 ++ 0#19 = (0x10#6 ++ 0x10#5 ++ 0#15 : BitVec 26) := by decide
  exact (congrArg (· &&& _) hw.symm).trans (hm.trans (congrArg (· ++ f) hc))

-- Table by table: encoding what a slot gives leaves the word's cared-for bits.

theorem decodeSpecial_care {w : Word} {f : BitVec 6} {i : Instr} (ho : opField w = 0#6) (hf : functField w = f)
    (h : decodeSpecial f w = .ok i) : encode i = w &&& i.careMask := by
  unfold decodeSpecial at h
  split at h
  case h_53 => cases h
  all_goals
    cases h
    simp only [encode, Instr.careMask, care_all, encTrap_fields ho hf, encCode_fields ho hf,
      care_rs_rt_rd ho hf, care_rt_rd_sa ho hf, care_rs_rt ho hf, care_rs_rd ho hf, care_rs ho hf, care_rd ho hf,
      care_funct ho hf]

theorem decodeRegimm_care {w : Word} {r : BitVec 5} {i : Instr} (ho : opField w = 0x01#6) (hr : rtField w = r)
    (h : decodeRegimm r w = .ok i) : encode i = w &&& i.careMask := by
  unfold decodeRegimm at h
  split at h
  case h_15 => cases h
  all_goals
    cases h
    simp only [encode, Instr.careMask, care_all, encRI_fields ho hr]

theorem decodeCop0Function_care {w : Word} {f : BitVec 6} {i : Instr} (ho : opField w = 0x10#6)
    (hb : w.getLsbD 25 = true) (hf : functField w = f) (h : decodeCop0Function f = .ok i) :
    encode i = w &&& i.careMask := by
  unfold decodeCop0Function at h
  split at h
  case h_6 => cases h
  all_goals
    cases h
    exact (care_function ho hb hf).symm

theorem decodeCop0_care {w : Word} {r : BitVec 5} {i : Instr} (ho : opField w = 0x10#6) (hr : rsField w = r)
    (h : decodeCop0 r w = .ok i) : encode i = w &&& i.careMask := by
  unfold decodeCop0 at h
  split at h
  case h_5 =>
    split at h
    · next hb => exact decodeCop0Function_care ho hb rfl h
    · cases h
  all_goals
    cases h
    exact (care_rt_rd ho hr).symm

theorem decodeBc1_care {w : Word} {r : BitVec 5} {i : Instr} (ho : opField w = 0x11#6) (hb : rsField w = 0x08#5)
    (hr : rtField w = r) (h : decodeBc1 r w = .ok i) : encode i = w &&& i.careMask := by
  unfold decodeBc1 at h
  split at h
  case h_5 => cases h
  all_goals
    cases h
    exact (encCB_fields ho hb hr).trans (care_all w).symm

theorem decodeCop1_care {w : Word} {r : BitVec 5} {i : Instr} (ho : opField w = 0x11#6) (hr : rsField w = r)
    (h : decodeCop1 r w = .ok i) : encode i = w &&& i.careMask := by
  unfold decodeCop1 at h
  split at h
  case h_7 => exact decodeBc1_care ho hr rfl h
  case h_12 => cases h
  all_goals
    cases h
    simp only [encode, Instr.careMask, care_all, encCM_fields ho hr, encCF_fields ho hr]

theorem decodeOp_care {w : Word} {op : BitVec 6} {i : Instr} (ho : opField w = op) (h : decodeOp op w = .ok i) :
    encode i = w &&& i.careMask := by
  unfold decodeOp at h
  split at h
  case h_1 => exact decodeSpecial_care ho rfl h
  case h_2 => exact decodeRegimm_care ho rfl h
  case h_17 => exact decodeCop0_care ho rfl h
  case h_18 => exact decodeCop1_care ho rfl h
  case h_53 => cases h
  all_goals
    cases h
    simp only [encode, Instr.careMask, care_all, encI_fields ho, encJ_fields ho, care_rt_imm ho, care_rs_imm ho]

theorem encode_of_decode {w : Word} {i : Instr} (h : decode w = .ok i) : encode i = w &&& i.careMask :=
  decodeOp_care rfl h

/-- A row's mask is among the bits its instructions read. -/
theorem careMask_row (i : Instr) : i.careMask &&& i.row.mask = i.row.mask := by
  cases i <;> simp only [Instr.careMask, Instr.row, -BitVec.reduceAnd] <;> decide

/-- A word decodes to an instruction of the row it matches. -/
theorem row_of_decode {w : Word} {i : Instr} (h : decode w = .ok i) : w &&& i.row.mask = i.row.value := by
  rw [← encode_row i, encode_of_decode h, BitVec.and_assoc, careMask_row]

-- A word that matches a row decodes, to an instruction of that row.

/-- With bit 25 set `rs` names none of COP0's moves, and `funct` decides (R168). -/
theorem decodeCop0_bit25 {w : Word} (hb : w.getLsbD 25 = true) :
    decodeCop0 (rsField w) w = decodeCop0Function (functField w) := by
  have hr : (rsField w).getLsbD 4 = true := by simpa [rsField, BitVec.getLsbD_extractLsb'] using hb
  unfold decodeCop0
  split
  case h_5 => exact if_pos hb
  all_goals
    next hk =>
      rw [hk] at hr
      exact absurd hr (by decide)

section
variable {w v : Word}

/-- A field that a mask keeps whole is the same in two words that agree under the mask. -/
theorem extract_of_masked {m : Word} {k n : Nat} (h : w &&& m = v &&& m) (hm : m.extractLsb' k n = BitVec.allOnes n) :
    w.extractLsb' k n = v.extractLsb' k n := by
  have he := congrArg (BitVec.extractLsb' k n) h
  rwa [BitVec.extractLsb'_and, BitVec.extractLsb'_and, hm, and_kept, and_kept] at he

theorem decode_of_op {op : BitVec 6} (h : w &&& 0xFC000000#32 = v &&& 0xFC000000#32) (hv : opField v = op) :
    decode w = decodeOp op w := by
  have ho : opField w = op := (extract_of_masked h rfl).trans hv
  rw [decode, ho]

theorem decode_of_special {f : BitVec 6} (h : w &&& 0xFC00003F#32 = v &&& 0xFC00003F#32) (hv : opField v = 0x00#6)
    (hf : functField v = f) : decode w = decodeSpecial f w := by
  have ho : opField w = 0x00#6 := (extract_of_masked h rfl).trans hv
  have hw : functField w = f := (extract_of_masked h rfl).trans hf
  rw [decode, ho, decode_special, hw]

theorem decode_of_regimm {sub : BitVec 5} (h : w &&& 0xFC1F0000#32 = v &&& 0xFC1F0000#32) (hv : opField v = 0x01#6)
    (hs : rtField v = sub) : decode w = decodeRegimm sub w := by
  have ho : opField w = 0x01#6 := (extract_of_masked h rfl).trans hv
  have hw : rtField w = sub := (extract_of_masked h rfl).trans hs
  rw [decode, ho, decode_regimm, hw]

theorem decode_of_cop0 {sub : BitVec 5} (h : w &&& 0xFFE00000#32 = v &&& 0xFFE00000#32) (hv : opField v = 0x10#6)
    (hs : rsField v = sub) : decode w = decodeCop0 sub w := by
  have ho : opField w = 0x10#6 := (extract_of_masked h rfl).trans hv
  have hw : rsField w = sub := (extract_of_masked h rfl).trans hs
  rw [decode, ho, decode_cop0, hw]

theorem decode_of_function {f : BitVec 6} (h : w &&& 0xFE00003F#32 = encCO f &&& 0xFE00003F#32) :
    decode w = decodeCop0Function f := by
  have ho : opField w = 0x10#6 := (extract_of_masked h rfl).trans (opField_encCO f)
  have hf : functField w = f := (extract_of_masked h rfl).trans (functField_encCO f)
  have hb : w.getLsbD 25 = true := by
    have h25 : w.extractLsb' 25 1 = (encCO f).extractLsb' 25 1 := extract_of_masked h rfl
    have hw : w.getLsbD 25 = (encCO f).getLsbD 25 := by
      simpa [BitVec.getLsbD_extractLsb'] using congrArg (·.getLsbD 0) h25
    exact hw.trans (bit25_encCO f)
  rw [decode, ho, decode_cop0, decodeCop0_bit25 hb, hf]

theorem decode_of_cop1 {sub : BitVec 5} (h : w &&& 0xFFE00000#32 = v &&& 0xFFE00000#32) (hv : opField v = 0x11#6)
    (hs : rsField v = sub) : decode w = decodeCop1 sub w := by
  have ho : opField w = 0x11#6 := (extract_of_masked h rfl).trans hv
  have hw : rsField w = sub := (extract_of_masked h rfl).trans hs
  rw [decode, ho, decode_cop1, hw]

theorem decode_of_bc1 {cond : BitVec 5} {imm : BitVec 16}
    (h : w &&& 0xFFFF0000#32 = encCB cond imm &&& 0xFFFF0000#32) : decode w = decodeBc1 cond w := by
  have ho : opField w = 0x11#6 := (extract_of_masked h rfl).trans (opField_encCB cond imm)
  have hs : rsField w = 0x08#5 := (extract_of_masked h rfl).trans (rsField_encCB cond imm)
  have hr : rtField w = cond := (extract_of_masked h rfl).trans (rtField_encCB cond imm)
  rw [decode, ho, decode_cop1, hs, decodeCop1_bc1, hr]

end

/-- A word with an instruction's row bits takes the row's slot. -/
theorem decode_of_agrees {w : Word} {i : Instr} (h : w &&& i.row.mask = encode i &&& i.row.mask) :
    ∃ j, decode w = .ok j ∧ j.row = i.row := by
  cases i with
  | add | addu | sub | subu | dadd | daddu | dsub | dsubu | and | or | xor | nor | slt | sltu | sll | srl | sra | sllv
  | srlv | srav | dsll | dsrl | dsra | dsllv | dsrlv | dsrav | dsll32 | dsrl32 | dsra32 | mult | multu | div | divu
  | dmult | dmultu | ddiv | ddivu | mfhi | mthi | mflo | mtlo | jr | jalr | sync =>
    exact ⟨_, decode_of_special h (opField_encR ..) (functField_encR ..), rfl⟩
  | tge | tgeu | tlt | tltu | teq | tne =>
    exact ⟨_, decode_of_special h (opField_encTrap ..) (functField_encTrap ..), rfl⟩
  | syscall | brk => exact ⟨_, decode_of_special h (opField_encCode ..) (functField_encCode ..), rfl⟩
  | addi | addiu | daddi | daddiu | andi | ori | xori | lui | slti | sltiu | beq | bne | blez | bgtz | beql | bnel
  | blezl | bgtzl | lb | lbu | lh | lhu | lw | lwu | ld | lwl | lwr | ldl | ldr | sb | sh | sw | sd | swl | swr | sdl
  | sdr | ll | lld | sc | scd | cache | lwc1 | ldc1 | swc1 | sdc1 =>
    exact ⟨_, decode_of_op h (opField_encI ..), rfl⟩
  | j | jal => exact ⟨_, decode_of_op h (opField_encJ ..), rfl⟩
  | bltz | bgez | bltzl | bgezl | bltzal | bgezal | bltzall | bgezall | tgei | tgeiu | tlti | tltiu | teqi | tnei =>
    exact ⟨_, decode_of_regimm h (opField_encRI ..) (rtField_encRI ..), rfl⟩
  | mfc0 | dmfc0 | mtc0 | dmtc0 => exact ⟨_, decode_of_cop0 h (opField_encCM ..) (rsField_encCM ..), rfl⟩
  | tlbr | tlbwi | tlbwr | tlbp | eret => exact ⟨_, decode_of_function h, rfl⟩
  | bc1f | bc1t | bc1fl | bc1tl => exact ⟨_, decode_of_bc1 h, rfl⟩
  | mfc1 | dmfc1 | cfc1 | mtc1 | dmtc1 | ctc1 =>
    exact ⟨_, decode_of_cop1 h (opField_encCM ..) (rsField_encCM ..), rfl⟩
  | cop1S | cop1D | cop1W | cop1L => exact ⟨_, decode_of_cop1 h (opField_encCF ..) (rsField_encCF ..), rfl⟩

theorem decode_of_row {w : Word} {i : Instr} (h : w &&& i.row.mask = i.row.value) :
    ∃ j, decode w = .ok j ∧ j.row = i.row :=
  decode_of_agrees (h.trans (encode_row i).symm)

/-- Settles O2, from the two directions. -/
theorem decodePicksTheRow : Obligations.DecodePicksTheRow := fun _ _ =>
  ⟨fun h => ⟨row_of_decode h, encode_of_decode h⟩, decode_of_row⟩

/-- Settles O3, by running the decoder on the words. -/
theorem knownWordsDecode : Obligations.KnownWordsDecode := ⟨rfl, rfl, rfl, rfl, rfl, rfl, rfl, rfl⟩

end Sys2Proof.Proofs

/-! Taking an exception (60_exceptions.md R460 to R475, 20_memory.md R94, R116): what an entry and an address fault
leave, field by field, and the instructions whose one effect is an exception. A bit field put into a word stays
within its place (`field_within`), so what a fault records and what it keeps are read apart. -/

namespace Sys2Proof.Proofs

open Sys2Proof.Machine Sys2Proof.Laws Sys2Proof.Safety

-- Bit fields in a word.

section
variable {w : Nat} (f : BitVec w) (n k : Nat)

/-- A field put at bit `k` sets no bit outside its own place. -/
theorem field_within : f.setWidth n <<< k &&& (BitVec.allOnes w).setWidth n <<< k = f.setWidth n <<< k := by
  apply BitVec.eq_of_getLsbD_eq
  intro i hi
  simp only [BitVec.getLsbD_and, BitVec.getLsbD_shiftLeft, BitVec.getLsbD_setWidth, BitVec.getLsbD_allOnes]
  by_cases hw : i - k < w
  · simp only [hw, decide_true, Bool.and_true]
    cases f.getLsbD (i - k) <;> simp
  · simp [BitVec.getLsbD_of_ge f (i - k) (by omega)]

/-- A field is read back from its place. -/
theorem extract_field {n k : Nat} (h : k + w ≤ n) : (f.setWidth n <<< k).extractLsb' k w = f := by
  apply BitVec.eq_of_getLsbD_eq
  intro i hi
  simp [hi, show k + i < n by omega]

variable {f n k}

/-- A mask that misses a field's place clears the field. -/
theorem field_cleared {m : BitVec n} (h : (BitVec.allOnes w).setWidth n <<< k &&& m = 0#n) :
    f.setWidth n <<< k &&& m = 0#n := by
  rw [← field_within f n k, BitVec.and_assoc, h, BitVec.and_zero]

/-- A field reads as zero in any other place. -/
theorem extract_other {j l : Nat} (h : ((BitVec.allOnes w).setWidth n <<< k).extractLsb' j l = 0#l) :
    (f.setWidth n <<< k).extractLsb' j l = 0#l := by
  rw [← field_within f n k, BitVec.extractLsb'_and, h, BitVec.and_zero]

end

section
variable {n : Nat} {c m x : BitVec n}

/-- Bits put where the mask kept nothing are what is read there. -/
theorem extract_insert {j l : Nat} (h : m.extractLsb' j l = 0#l) :
    (c &&& m ||| x).extractLsb' j l = x.extractLsb' j l := by
  rw [BitVec.extractLsb'_or, BitVec.extractLsb'_and, h, BitVec.and_zero, BitVec.zero_or]

/-- Bits put outside the mask leave what the mask kept. -/
theorem rest_insert (h : x &&& m = 0#n) : (c &&& m ||| x) &&& m = c &&& m := by
  rw [BitVec.and_or_distrib_right, h, BitVec.or_zero, BitVec.and_assoc, BitVec.and_self]

end

-- What an address fault records (R116).

section
variable {c m : DWord} {j k : Nat} {f : BitVec 27} {g : BitVec 2}

/-- Two fields put side by side where the mask kept nothing, as XContext and EntryHi hold VPN2 and R. -/
theorem insert_vpn2_r (hm : m.extractLsb' j 27 = 0#27) (hn : m.extractLsb' k 2 = 0#2) (hj : j + 27 ≤ 64)
    (hk : k + 2 ≤ 64) (hg : ((3#2).setWidth 64 <<< k).extractLsb' j 27 = 0#27)
    (hf : ((BitVec.allOnes 27).setWidth 64 <<< j).extractLsb' k 2 = 0#2)
    (hfm : (BitVec.allOnes 27).setWidth 64 <<< j &&& m = 0#64)
    (hgm : (BitVec.allOnes 2).setWidth 64 <<< k &&& m = 0#64) :
    (c &&& m ||| f.setWidth 64 <<< j ||| g.setWidth 64 <<< k).extractLsb' j 27 = f
      ∧ (c &&& m ||| f.setWidth 64 <<< j ||| g.setWidth 64 <<< k).extractLsb' k 2 = g
      ∧ (c &&& m ||| f.setWidth 64 <<< j ||| g.setWidth 64 <<< k) &&& m = c &&& m := by
  rw [BitVec.or_assoc]
  refine ⟨?_, ?_, rest_insert ?_⟩
  · rw [extract_insert hm, BitVec.extractLsb'_or, extract_field f hj, extract_other hg, BitVec.or_zero]
  · rw [extract_insert hn, BitVec.extractLsb'_or, extract_other hf, extract_field g hk, BitVec.zero_or]
  · rw [BitVec.and_or_distrib_right, field_cleared hfm, field_cleared hgm, BitVec.or_zero]

end

theorem recordFault_recorded (va : VAddr) (c : Cop0) : FaultRecorded va c (c.recordFault va) :=
  have hx := insert_vpn2_r (c := c.xContext) (m := 0xFFFFFFFE0000000F#64) (j := 4) (k := 31) (f := vaVpn2 va)
    (g := vaRegion va) (by decide) (by decide) (by decide) (by decide) (by decide) (by decide) (by decide) (by decide)
  have hh := insert_vpn2_r (c := c.entryHi) (m := 0x3FFFFF0000001FFF#64) (j := 13) (k := 62) (f := vaVpn2 va)
    (g := vaRegion va) (by decide) (by decide) (by decide) (by decide) (by decide) (by decide) (by decide) (by decide)
  { badVAddr := rfl
    contextBadVPN2 := (extract_insert (by decide)).trans (extract_field _ (by decide))
    contextRest := rest_insert (field_cleared (by decide))
    xContextBadVPN2 := hx.1
    xContextR := hx.2.1
    xContextRest := hx.2.2
    entryHiVPN2 := hh.1
    entryHiR := hh.2.1
    entryHiRest := hh.2.2
    index := rfl
    entryLo0 := rfl
    entryLo1 := rfl
    pageMask := rfl
    wired := rfl
    count := rfl
    compare := rfl
    status := rfl
    cause := rfl
    epc := rfl
    llAddr := rfl
    errorEPC := rfl }

/-- Settles O36, from the fields it puts into the three registers. -/
theorem recordFault : Obligations.RecordFault := fun s va => ⟨recordFault_recorded va s.cop0, rfl⟩

-- Where the handler is (R471).

theorem takesRefill_iff {kind : ExcKind} {oldExl : Bool} {err : Option TlbFail} :
    takesRefill kind oldExl err = true ↔
      (kind = .tlbLoad ∨ kind = .tlbStore) ∧ oldExl = false ∧ err ≠ some .invalid := by
  simp [takesRefill, and_assoc]

theorem handlerAt_handler (kind : ExcKind) (s : State) : HandlerAt kind s (s.handler kind) := by
  refine ⟨vectorBase s.cop0.status, _, rfl, fun h => ?bev, fun h => ?nobev, fun h => ?refill, fun h => ?general⟩
  case bev => exact if_pos h
  case nobev => exact if_neg (by simp [h])
  case refill => exact if_pos (takesRefill_iff.mpr h)
  case general => exact if_neg fun h' => h (takesRefill_iff.mp h')

/-- A handler is at one of three places over the vector base. -/
theorem handler_offset (kind : ExcKind) (s : State) :
    ∃ off ∈ [0x000#64, 0x080#64, 0x180#64], s.handler kind = vectorBase s.cop0.status + off := by
  refine ⟨_, ?_, rfl⟩
  split_ifs <;> decide

-- What an entry changes (R470 to R472).

theorem status_raise (c : Cop0) (kind : ExcKind) (cop : BitVec 2) (pc : VAddr) (d : Bool) :
    (c.raise kind cop pc d).status = c.status ||| 0x00000002#32 := by
  cases h : statusEXL c.status with
  | false => rw [raise_noexl h]; rfl
  | true =>
    rw [raise_exl h]
    apply BitVec.eq_of_getLsbD_eq
    intro i _
    by_cases hi : i = 1
    · subst hi
      simpa [statusEXL] using h
    · exact (getLsbD_setEXL c.status i hi).symm

theorem causeWithCode_rest (code : BitVec 5) (cop : BitVec 2) (c : Word) :
    causeWithCode code cop c &&& 0x4FFFFF83#32 = c &&& 0x4FFFFF83#32 := by
  simp only [causeWithCode]
  rw [BitVec.and_or_distrib_right, BitVec.and_or_distrib_right, field_cleared (by decide), field_cleared (by decide),
    BitVec.or_zero, BitVec.or_zero, BitVec.and_assoc]
  congr 1

theorem causeWithBD_rest (d : Bool) (c : Word) : causeWithBD d c &&& 0x4FFFFF83#32 = c &&& 0x4FFFFF83#32 := by
  cases d with
  | false => exact BitVec.and_assoc ..
  | true =>
    rw [causeWithBD, if_pos rfl, BitVec.and_or_distrib_right, show 0x80000000#32 &&& 0x4FFFFF83#32 = 0#32 by decide,
      BitVec.or_zero]

theorem cause_raise_rest (c : Cop0) (kind : ExcKind) (cop : BitVec 2) (pc : VAddr) (d : Bool) :
    (c.raise kind cop pc d).cause &&& 0x4FFFFF83#32 = c.cause &&& 0x4FFFFF83#32 := by
  cases h : statusEXL c.status with
  | false => rw [raise_noexl h, causeWithCode_rest, causeWithBD_rest]
  | true => rw [raise_exl h, causeWithCode_rest]

theorem causeExcCode_raise (c : Cop0) (kind : ExcKind) (cop : BitVec 2) (pc : VAddr) (d : Bool) :
    causeExcCode (c.raise kind cop pc d).cause = kind.code := by
  cases h : statusEXL c.status with
  | false => rw [raise_noexl h, causeExcCode_withCode]
  | true => rw [raise_exl h, causeExcCode_withCode]

theorem causeCE_raise (c : Cop0) (kind : ExcKind) (cop : BitVec 2) (pc : VAddr) (d : Bool) :
    causeCE (c.raise kind cop pc d).cause = cop := by
  cases h : statusEXL c.status with
  | false => rw [raise_noexl h, causeCE_withCode]
  | true => rw [raise_exl h, causeCE_withCode]

theorem raise_sameFaultRegs (c : Cop0) (kind : ExcKind) (cop : BitVec 2) (pc : VAddr) (d : Bool) :
    SameFaultRegs c (c.raise kind cop pc d) := by
  cases h : statusEXL c.status with
  | false => rw [raise_noexl h]; constructor <;> rfl
  | true => rw [raise_exl h]; constructor <;> rfl

/-- Every exception entry, nested or not. -/
theorem entered_raise (kind : ExcKind) (cop : BitVec 2) (pc : VAddr) (d : Bool) (s : State) :
    Entered kind cop pc d s (s.raise kind cop pc d) where
  status := status_raise ..
  epc h := by rw [raise_cop0, raise_noexl h]
  bd h := by rw [raise_cop0, raise_noexl h, causeBD_withCode, causeBD_withBD]
  epcKept h := by rw [raise_cop0, raise_exl h]
  bdKept h := by rw [raise_cop0, raise_exl h, causeBD_withCode]
  code := causeExcCode_raise ..
  ce := causeCE_raise ..
  cause := cause_raise_rest ..
  cop0 := raise_sameFaultRegs ..
  pc := handlerAt_handler kind s
  nextPC := rfl
  oldPC := rfl
  delaySlot := rfl
  curDS := rfl
  regs _ := rfl
  hilo := ⟨rfl, rfl⟩
  latches := ⟨rfl, rfl⟩
  tlb := rfl
  bytes _ := rfl
  outside := ⟨rfl, rfl, rfl, rfl⟩

theorem modeOf_raise (s : State) (kind : ExcKind) (cop : BitVec 2) (pc : VAddr) (d : Bool) :
    modeOf (s.raise kind cop pc d).cop0.status = some .kernel := by
  simp [modeOf, raise_sets_exl]

theorem interruptDue_raise (s : State) (kind : ExcKind) (cop : BitVec 2) (pc : VAddr) (d : Bool) :
    interruptDue (s.raise kind cop pc d) = false := by
  simp [interruptDue, raise_sets_exl]

/-- Settles O28, from the entry's fields and the table of R460. -/
theorem exceptionEntry : Obligations.ExceptionEntry := by
  intro s kind cop pc d
  refine ⟨entered_raise .., fun code h => ?_, modeOf_raise .., interruptDue_raise ..⟩
  have hcode : kind.code = code := by
    simp only [List.mem_cons, Prod.mk.injEq, List.not_mem_nil, or_false] at h
    rcases h with ⟨rfl, rfl⟩ | ⟨rfl, rfl⟩ | ⟨rfl, rfl⟩ | ⟨rfl, rfl⟩ | ⟨rfl, rfl⟩ | ⟨rfl, rfl⟩ | ⟨rfl, rfl⟩ | ⟨rfl, rfl⟩
      | ⟨rfl, rfl⟩ | ⟨rfl, rfl⟩ | ⟨rfl, rfl⟩ | ⟨rfl, rfl⟩ | ⟨rfl, rfl⟩ <;> rfl
  exact (causeExcCode_raise ..).trans hcode

-- The handler's own fetch (R97, R471).

/-- The addresses an exception can lead to. -/
def handlerAddresses : List VAddr :=
  [0xFFFFFFFF80000000#64, 0xFFFFFFFF80000080#64, 0xFFFFFFFF80000180#64,
    0xFFFFFFFFBFC00200#64, 0xFFFFFFFFBFC00280#64, 0xFFFFFFFFBFC00380#64]

theorem handler_mem (kind : ExcKind) (s : State) : s.handler kind ∈ handlerAddresses := by
  obtain ⟨off, hoff, he⟩ := handler_offset kind s
  simp only [List.mem_cons, List.not_mem_nil, or_false] at hoff
  rw [he, vectorBase]
  rcases hoff with rfl | rfl | rfl <;> split_ifs <;> decide

/-- Each is a word address in the kernel's unmapped segments. -/
theorem handlerAddresses_direct : ∀ va ∈ handlerAddresses, aligned .word va = true
    ∧ va.extractLsb' 32 32 = 0xFFFFFFFF#32 ∧ (va.extractLsb' 29 3 = 0b100#3 ∨ va.extractLsb' 29 3 = 0b101#3) := by
  simp [handlerAddresses, aligned]

/-- Settles O29: a handler's address lies in kseg0 or kseg1, where no TLB entry plays a part. -/
theorem handlerFetchTranslates : Obligations.HandlerFetchTranslates := by
  intro s kind cop pc d
  obtain ⟨hal, hhi, htop⟩ := handlerAddresses_direct _ (handler_mem kind s)
  refine ⟨s.raise kind cop pc d, ((s.handler kind).extractLsb' 0 29).setWidth 32, rfl, ?_, fun tlb => ?_⟩
  · rw [raise_pc]
    exact hal
  · rw [raise_pc]
    have ht := translate_kernel_direct (s := { s.raise kind cop pc d with tlb := tlb }) (modeOf_raise s kind cop pc d)
      (fun _ => hhi) htop .load
    exact congrArg Prod.fst ht

-- Exceptions as the effect of an instruction.

/-- An instruction that raises does nothing else. -/
theorem completes_raiseHere {i : Instr} {s : State} {kind : ExcKind} {cop : BitVec 2}
    (h : exec i s = raiseHere kind cop s) : Completes i s (Raises kind cop s) :=
  ⟨_, h, entered_raise ..⟩

theorem faultEntered_raiseAddress (kind : ExcKind) (va pc : VAddr) (err : Option TlbFail) (s : State) :
    FaultEntered kind va pc err s ({ s with tlbError := err }.raiseAddress kind va pc) :=
  ⟨_, recordFault_recorded va s.cop0, entered_raise ..⟩

/-- Settles O47, from the entry each makes. -/
theorem syscallAndBreak : Obligations.SyscallAndBreak := fun _ _ =>
  ⟨⟨_, rfl, entered_raise .., causeExcCode_raise ..⟩, ⟨_, rfl, entered_raise .., causeExcCode_raise ..⟩⟩

/-- An instruction that is a conditional trap on `b`. -/
theorem trapsWhen_trapIf {i : Instr} {s : State} {b : Bool} {p : Prop} (h : exec i s = s.trapIf b)
    (hb : b = true ↔ p) : TrapsWhen i p s := by
  refine ⟨fun hp => completes_raiseHere (h.trans ?_), fun hp => h.trans ?_⟩
  · rw [hb.mpr hp]; rfl
  · rw [Bool.eq_false_iff.mpr (mt hb.mp hp)]; rfl

-- The comparisons of 64-bit values as comparisons of numbers.

theorem simm_toInt (imm : BitVec 16) : (simm imm).toInt = imm.toInt :=
  BitVec.toInt_signExtend_of_le (by decide)

section
variable {w : Nat} {a b : BitVec w}

theorem slt_iff : a.slt b = true ↔ a.toInt < b.toInt := decide_eq_true_iff

theorem not_slt_iff : (!a.slt b) = true ↔ b.toInt ≤ a.toInt := by
  rw [Bool.not_eq_true', ← Bool.not_eq_true, slt_iff, not_lt]

theorem ult_iff : a.ult b = true ↔ a.toNat < b.toNat := decide_eq_true_iff

theorem not_ult_iff : (!a.ult b) = true ↔ b.toNat ≤ a.toNat := by
  rw [Bool.not_eq_true', ← Bool.not_eq_true, ult_iff, not_lt]

theorem beq_iff_toInt : (a == b) = true ↔ a.toInt = b.toInt := by
  rw [beq_iff_eq, BitVec.toInt_inj]

theorem bne_iff_toInt : (a != b) = true ↔ a.toInt ≠ b.toInt := by
  rw [bne_iff_ne, ne_eq, ne_eq, BitVec.toInt_inj]

end

/-- Settles O46, each form by its comparison. -/
theorem conditionalTraps : Obligations.ConditionalTraps := by
  intro s rs rt c imm
  have hi := simm_toInt imm
  refine ⟨?tge, ?tgeu, ?tlt, ?tltu, ?teq, ?tne, ?tgei, ?tgeiu, ?tlti, ?tltiu, ?teqi, ?tnei⟩
  case tge => exact trapsWhen_trapIf rfl not_slt_iff
  case tgeu => exact trapsWhen_trapIf rfl not_ult_iff
  case tlt => exact trapsWhen_trapIf rfl slt_iff
  case tltu => exact trapsWhen_trapIf rfl ult_iff
  case teq => exact trapsWhen_trapIf rfl beq_iff_eq
  case tne => exact trapsWhen_trapIf rfl bne_iff_ne
  case tgei => exact trapsWhen_trapIf rfl (hi ▸ not_slt_iff)
  case tgeiu => exact trapsWhen_trapIf rfl not_ult_iff
  case tlti => exact trapsWhen_trapIf rfl (hi ▸ slt_iff)
  case tltiu => exact trapsWhen_trapIf rfl ult_iff
  case teqi => exact trapsWhen_trapIf rfl (hi ▸ beq_iff_toInt)
  case tnei => exact trapsWhen_trapIf rfl (hi ▸ bne_iff_toInt)

/-- Settles O44: neither does anything. -/
theorem cacheAndSyncDoNothing : Obligations.CacheAndSyncDoNothing := fun _ _ _ _ => ⟨rfl, rfl⟩

end Sys2Proof.Proofs

/-! Integer arithmetic, logic, comparison, shifts, multiply and divide (40_alu.md, 41_muldiv.md): each operation on
words is `BitVec.ofInt` of the exact operation on the numbers they hold, and a result fits its width or is wrapped. -/

namespace Sys2Proof.Proofs

open Sys2Proof.Machine Sys2Proof.Laws Sys2Proof.Safety

-- The one effect of an instruction.

theorem onlyReg_writeReg (r : RegIdx) (v : DWord) (s : State) : OnlyReg r v s (s.writeReg r v) where
  regs q := readReg_writeReg r q v s
  hilo := ⟨rfl, rfl⟩
  pcs := ⟨rfl, rfl, rfl, rfl, rfl⟩
  latches := ⟨rfl, rfl⟩
  cop0 := rfl
  tlb := rfl
  bytes _ := rfl
  outside := ⟨rfl, rfl, rfl, rfl⟩

theorem onlyHiLo_setHiLo (h l : DWord) (s : State) : OnlyHiLo h l s (s.setHiLo h l) where
  regs _ := rfl
  hi := rfl
  lo := rfl
  pcs := ⟨rfl, rfl, rfl, rfl, rfl⟩
  latches := ⟨rfl, rfl⟩
  cop0 := rfl
  tlb := rfl
  bytes _ := rfl
  outside := ⟨rfl, rfl, rfl, rfl⟩

section
variable {i : Instr} {s : State}

theorem gives_put {r : RegIdx} {v v' : DWord} (h : exec i s = s.put r v) (hv : v = v') : Gives i r v' s :=
  ⟨_, h.trans (put_eq r v s), hv ▸ onlyReg_writeReg r v s⟩

theorem completes_setHiLo {h l : DWord} (he : exec i s = .next (s.setHiLo h l)) :
    Completes i s (OnlyHiLo h l s) := ⟨_, he, onlyHiLo_setHiLo h l s⟩

theorem completes_putHiLo {p : HiLo} {h l : DWord} (he : exec i s = s.putHiLo p) (hp : p = ⟨h, l⟩) :
    Completes i s (OnlyHiLo h l s) :=
  completes_setHiLo (he.trans (hp ▸ rfl))

end

/-- Settles O19, from what each move writes. -/
theorem hiLoMoves : Obligations.HiLoMoves := fun _ _ =>
  ⟨gives_put rfl rfl, gives_put rfl rfl, completes_setHiLo rfl, completes_setHiLo rfl⟩

-- Words as numbers.

theorem sext_word (v : Word) : sext 32 v = v.signExtend 64 := by rw [sext, BitVec.setWidth_eq]

/-- The low word holds the number modulo 2^32. -/
theorem low32_eq_ofInt (v : DWord) : low32 v = BitVec.ofInt 32 v.toInt :=
  (BitVec.signExtend_eq_setWidth_of_le v (by decide)).symm

theorem low32_simm (imm : BitVec 16) : low32 (simm imm) = imm.signExtend 32 := by
  rw [low32_eq_ofInt, simm_toInt]
  rfl

theorem low32_simm_toInt (imm : BitVec 16) : (low32 (simm imm)).toInt = imm.toInt := by
  rw [low32_simm, BitVec.toInt_signExtend_of_le (by decide)]

section
variable {w : Nat} (a b : BitVec w)

theorem add_eq_ofInt : a + b = BitVec.ofInt w (a.toInt + b.toInt) := by
  rw [BitVec.ofInt_add, BitVec.ofInt_toInt, BitVec.ofInt_toInt]

theorem sub_eq_ofInt : a - b = BitVec.ofInt w (a.toInt - b.toInt) := by
  rw [BitVec.sub_eq_add_neg, Int.sub_eq_add_neg, BitVec.ofInt_add, BitVec.ofInt_neg, BitVec.ofInt_toInt,
    BitVec.ofInt_toInt]

theorem shiftLeft_eq_ofNat (k : Nat) : a <<< k = BitVec.ofNat w (a.toNat * 2 ^ k) := by
  apply BitVec.eq_of_toNat_eq
  rw [BitVec.toNat_shiftLeft, BitVec.toNat_ofNat, Nat.shiftLeft_eq]

theorem ushiftRight_eq_ofNat (k : Nat) : a >>> k = BitVec.ofNat w (a.toNat / 2 ^ k) := by
  apply BitVec.eq_of_toNat_eq
  rw [BitVec.toNat_ushiftRight, BitVec.toNat_ofNat, Nat.shiftRight_eq_div_pow,
    Nat.mod_eq_of_lt (Nat.lt_of_le_of_lt (Nat.div_le_self ..) a.isLt)]

theorem sshiftRight_toInt (k : Nat) : (a.sshiftRight k).toInt = a.toInt / 2 ^ k := by
  rw [BitVec.toInt_sshiftRight, Int.shiftRight_eq_div_pow, Nat.cast_pow, Nat.cast_ofNat]

theorem sshiftRight_eq_ofInt (k : Nat) : a.sshiftRight k = BitVec.ofInt w (a.toInt / 2 ^ k) := by
  rw [← sshiftRight_toInt, BitVec.ofInt_toInt]

-- Overflow (R200): the tests say that the exact result does not fit.

variable {a b}

theorem addOverflows_iff : addOverflows a b = true ↔ ¬Fits w (a.toInt + b.toInt) := by
  have h : addOverflows a b = a.saddOverflow b := (BitVec.saddOverflow_eq a b).symm
  rw [h, BitVec.saddOverflow, Fits, Bool.or_eq_true, decide_eq_true_iff, decide_eq_true_iff]
  omega

theorem subOverflows_iff : subOverflows a b = true ↔ ¬Fits w (a.toInt - b.toInt) := by
  have h : subOverflows a b = a.ssubOverflow b := by
    rw [BitVec.ssubOverflow_eq, subOverflows]
    cases a.msb <;> cases b.msb <;> cases (a - b).msb <;> rfl
  rw [h, BitVec.ssubOverflow, Fits, Bool.or_eq_true, decide_eq_true_iff, decide_eq_true_iff]
  omega

end

/-- A number that fits 32 bits, sign-extended from its word, is itself in 64 bits. -/
theorem wordResult_of_fits {n : Int} (h : Fits 32 n) : wordResult n = BitVec.ofInt 64 n := by
  obtain ⟨hlo, hhi⟩ := h
  rw [wordResult, BitVec.signExtend, BitVec.toInt_ofInt_eq_self (by decide) hlo hhi]

theorem checksOverflow_putChecked {i : Instr} {s : State} {b : Bool} {r : RegIdx} {v : DWord} {w : Nat} {n : Int}
    (h : exec i s = s.putChecked b r v) (hb : b = true ↔ ¬Fits w n) (hv : Fits w n → v = BitVec.ofInt 64 n) :
    ChecksOverflow i w n r s := by
  refine ⟨fun hf => ?_, fun hf => completes_raiseHere ?_⟩
  · obtain rfl : b = false := Bool.eq_false_iff.mpr fun ht => hb.mp ht hf
    exact gives_put h (hv hf)
  · obtain rfl : b = true := hb.mpr hf
    exact h

/-- Settles O11: each test of overflow is the exact result's fit, and a result that fits is itself. -/
theorem checkedArithmetic : Obligations.CheckedArithmetic := by
  intro s rd rs rt imm
  refine ⟨?add, ?addi, ?sub, ?dadd, ?daddi, ?dsub⟩
  case add =>
    refine checksOverflow_putChecked rfl addOverflows_iff fun hf => ?_
    rw [sext_word, add_eq_ofInt]
    exact wordResult_of_fits hf
  case addi =>
    have hi : (low32 (simm imm)).toInt = imm.toInt := low32_simm_toInt imm
    refine checksOverflow_putChecked rfl (hi ▸ addOverflows_iff) fun hf => ?_
    rw [sext_word, add_eq_ofInt, hi]
    exact wordResult_of_fits hf
  case sub =>
    refine checksOverflow_putChecked rfl subOverflows_iff fun hf => ?_
    rw [sext_word, sub_eq_ofInt]
    exact wordResult_of_fits hf
  case dadd => exact checksOverflow_putChecked rfl addOverflows_iff fun _ => add_eq_ofInt ..
  case daddi =>
    refine checksOverflow_putChecked rfl (simm_toInt imm ▸ addOverflows_iff) fun _ => ?_
    rw [add_eq_ofInt, simm_toInt]
    rfl
  case dsub => exact checksOverflow_putChecked rfl subOverflows_iff fun _ => sub_eq_ofInt ..

/-- Settles O12, from the same exact results, wrapped. -/
theorem uncheckedArithmetic : Obligations.UncheckedArithmetic := by
  intro s rd rs rt imm
  refine ⟨?addu, ?addiu, ?subu, ?daddu, ?daddiu, ?dsubu⟩
  case addu => exact gives_put rfl (by rw [sext_word, add_eq_ofInt]; rfl)
  case addiu => exact gives_put rfl (by rw [sext_word, add_eq_ofInt, low32_simm_toInt]; rfl)
  case subu => exact gives_put rfl (by rw [sext_word, sub_eq_ofInt]; rfl)
  case daddu => exact gives_put rfl (add_eq_ofInt ..)
  case daddiu => exact gives_put rfl (by rw [add_eq_ofInt, simm_toInt]; rfl)
  case dsubu => exact gives_put rfl (sub_eq_ofInt ..)

theorem getLsbD_upperImm (imm : BitVec 16) {k : Nat} (hk : k < 64) : (upperImm imm).getLsbD k =
    if k < 16 then false else if k < 32 then imm.getLsbD (k - 16) else imm.getLsbD 15 := by
  simp only [upperImm, BitVec.getLsbD_signExtend, BitVec.getLsbD_append, BitVec.getLsbD_zero, hk, decide_true,
    Bool.true_and, BitVec.msb_eq_getLsbD_last]
  split_ifs <;> grind

/-- Settles O13, bit by bit. -/
theorem logicBitByBit : Obligations.LogicBitByBit := by
  intro s rd rs rt imm
  refine ⟨?and, ?or, ?xor, ?nor, ?andi, ?ori, ?xori, ?lui⟩
  case and => exact ⟨_, gives_put rfl rfl, fun _ _ => BitVec.getLsbD_and⟩
  case or => exact ⟨_, gives_put rfl rfl, fun _ _ => BitVec.getLsbD_or⟩
  case xor => exact ⟨_, gives_put rfl rfl, fun _ _ => BitVec.getLsbD_xor⟩
  case nor => exact ⟨_, gives_put rfl rfl, fun k hk => by simp [hk]⟩
  case andi => exact ⟨_, gives_put rfl rfl, fun k hk => by simp [zimm, hk]⟩
  case ori => exact ⟨_, gives_put rfl rfl, fun k hk => by simp [zimm, hk]⟩
  case xori => exact ⟨_, gives_put rfl rfl, fun k hk => by simp [zimm, hk]⟩
  case lui => exact ⟨_, gives_put rfl rfl, fun k hk => getLsbD_upperImm imm hk⟩

theorem boolToDWord_eq {b : Bool} {p : Prop} [Decidable p] (h : b = true ↔ p) :
    boolToDWord b = if p then 1#64 else 0#64 :=
  if_congr h rfl rfl

/-- Settles O14, each form by its comparison. -/
theorem setOnLess : Obligations.SetOnLess := by
  intro s rd rs rt imm
  refine ⟨?slt, ?sltu, ?slti, ?sltiu⟩
  case slt => exact gives_put rfl (boolToDWord_eq slt_iff)
  case sltu => exact gives_put rfl (boolToDWord_eq ult_iff)
  case slti => exact gives_put rfl (boolToDWord_eq (simm_toInt imm ▸ slt_iff))
  case sltiu => exact gives_put rfl (boolToDWord_eq ult_iff)

-- Shifts (R230 to R244).

theorem varAmount5_eq (v : DWord) : varAmount5 v = v.toNat % 32 := by
  rw [varAmount5, BitVec.extractLsb'_toNat, Nat.shiftRight_zero]

theorem varAmount6_eq (v : DWord) : varAmount6 v = v.toNat % 64 := by
  rw [varAmount6, BitVec.extractLsb'_toNat, Nat.shiftRight_zero]

section
variable (v : DWord) (k : Nat)

theorem sext_shiftLeft : sext 32 (low32 v <<< k) = wordResult ((low32 v).toNat * 2 ^ k) := by
  rw [sext_word, shiftLeft_eq_ofNat, wordResult, ← BitVec.ofInt_natCast, Nat.cast_mul, Nat.cast_pow, Nat.cast_ofNat]

theorem sext_ushiftRight : sext 32 (low32 v >>> k) = wordResult ((low32 v).toNat / 2 ^ k) := by
  rw [sext_word, ushiftRight_eq_ofNat, wordResult, ← BitVec.ofInt_natCast,
    Int.natCast_ediv, Nat.cast_pow, Nat.cast_ofNat]

/-- The arithmetic shift is of all 64 bits, and its low word is kept (R232). -/
theorem sext_sshiftRight : sext 32 (v.sshiftRight k) = wordResult (v.toInt / 2 ^ k) := by
  rw [wordResult, ← sshiftRight_toInt, ← low32_eq_ofInt]
  rfl

end

/-- Settles O15, each shift by its power of two. -/
theorem shifts : Obligations.Shifts := by
  intro s rd rs rt sa
  have h5 := varAmount5_eq (s.readReg rs)
  have h6 := varAmount6_eq (s.readReg rs)
  refine ⟨?sll, ?srl, ?sra, ?sllv, ?srlv, ?srav, ?dsll, ?dsrl, ?dsra, ?dsllv, ?dsrlv, ?dsrav, ?dsll32, ?dsrl32, ?dsra32⟩
  case sll => exact gives_put rfl (sext_shiftLeft ..)
  case srl => exact gives_put rfl (sext_ushiftRight ..)
  case sra => exact gives_put rfl (sext_sshiftRight ..)
  case sllv => exact gives_put rfl (h5 ▸ sext_shiftLeft ..)
  case srlv => exact gives_put rfl (h5 ▸ sext_ushiftRight ..)
  case srav => exact gives_put rfl (h5 ▸ sext_sshiftRight ..)
  case dsll | dsll32 => exact gives_put rfl (shiftLeft_eq_ofNat ..)
  case dsrl | dsrl32 => exact gives_put rfl (ushiftRight_eq_ofNat ..)
  case dsra | dsra32 => exact gives_put rfl (sshiftRight_eq_ofInt ..)
  case dsllv => exact gives_put rfl (h6 ▸ shiftLeft_eq_ofNat ..)
  case dsrlv => exact gives_put rfl (h6 ▸ ushiftRight_eq_ofNat ..)
  case dsrav => exact gives_put rfl (h6 ▸ sshiftRight_eq_ofInt ..)

-- Multiply (R260).

section
variable (p : DWord)

theorem halves32_toNat : (low32 (p >>> 32)).toNat * 2 ^ 32 + (low32 p).toNat = p.toNat := by
  simp only [low32, BitVec.toNat_setWidth, BitVec.toNat_ushiftRight, Nat.shiftRight_eq_div_pow]
  omega

theorem halves32_toInt : (low32 (p >>> 32)).toInt * 2 ^ 32 + (low32 p).toNat = p.toInt := by
  have h := halves32_toNat p
  have hl := (low32 p).isLt
  rw [BitVec.toInt_eq_toNat_cond, BitVec.toInt_eq_toNat_cond]
  split_ifs <;> omega

end

section
variable (p : BitVec 128)

theorem halves64_toNat : (p.extractLsb' 64 64).toNat * 2 ^ 64 + (p.extractLsb' 0 64).toNat = p.toNat := by
  simp only [BitVec.extractLsb'_toNat, Nat.shiftRight_eq_div_pow]
  omega

theorem halves64_toInt : (p.extractLsb' 64 64).toInt * 2 ^ 64 + (p.extractLsb' 0 64).toNat = p.toInt := by
  have h := halves64_toNat p
  have hl := (p.extractLsb' 0 64).isLt
  rw [BitVec.toInt_eq_toNat_cond, BitVec.toInt_eq_toNat_cond]
  split_ifs <;> omega

end

section
variable {w : Nat} (a b : BitVec w)

/-- A product of two signed numbers of `w` bits fits twice the width. -/
theorem toInt_ofInt_mul (hw : 0 < w) : (BitVec.ofInt (w * 2) (a.toInt * b.toInt)).toInt = a.toInt * b.toInt := by
  have hp : (2 : Int) ^ (w * 2 - 2) < 2 ^ (w * 2 - 1) := Int.pow_lt_pow_of_lt (by decide) (by omega)
  have hlo := BitVec.le_toInt_mul_toInt (x := a) (y := b)
  have hhi := BitVec.toInt_mul_toInt_le (x := a) (y := b)
  exact BitVec.toInt_ofInt_eq_self (by omega) (by omega) (by omega)

theorem toNat_ofNat_mul : (BitVec.ofNat (w * 2) (a.toNat * b.toNat)).toNat = a.toNat * b.toNat := by
  rw [BitVec.toNat_ofNat, Nat.mod_eq_of_lt]
  calc a.toNat * b.toNat < 2 ^ w * 2 ^ w := Nat.mul_lt_mul'' a.isLt b.isLt
    _ = 2 ^ (w * 2) := by rw [← Nat.pow_add, Nat.mul_two]

end

/-- Settles O16: the exact product fits twice the width, and its halves are HI and LO. -/
theorem multiply : Obligations.Multiply := by
  intro s rs rt
  refine ⟨⟨_, _, completes_putHiLo rfl rfl, ?mult⟩, ⟨_, _, completes_putHiLo rfl rfl, ?multu⟩,
    ⟨_, _, completes_putHiLo rfl rfl, ?dmult⟩, ⟨_, _, completes_putHiLo rfl rfl, ?dmultu⟩⟩
  case mult => exact (halves32_toInt _).trans (toInt_ofInt_mul _ _ (by decide))
  case multu => exact (halves32_toNat _).trans (toNat_ofNat_mul ..)
  case dmult => exact (halves64_toInt _).trans (toInt_ofInt_mul _ _ (by decide))
  case dmultu => exact (halves64_toNat _).trans (toNat_ofNat_mul ..)

-- Divide (R261, R264, R265, R268, R269).

/-- A signed division of words, the overflowing one excepted, has the exact quotient and remainder as its words. -/
structure SignedDivision {w : Nat} (a b q r : BitVec w) : Prop where
  equation : a.toInt = q.toInt * b.toInt + r.toInt
  bound : |r.toInt| < |b.toInt|
  sign : 0 ≤ r.toInt * a.toInt

theorem tmod_bound {n d : Int} (hd : d ≠ 0) : |n.tmod d| < |d| := by
  rw [Int.abs_eq_natAbs, Int.abs_eq_natAbs, Int.natAbs_tmod, Int.ofNat_lt]
  exact Nat.mod_lt _ (Int.natAbs_pos.mpr hd)

theorem tmod_mul_nonneg (n d : Int) : 0 ≤ n.tmod d * n := by
  rcases Int.le_total 0 n with h | h
  · exact Int.mul_nonneg (Int.tmod_nonneg d h) h
  · have hr : 0 ≤ (-n).tmod d * -n := Int.mul_nonneg (Int.tmod_nonneg d (by omega)) (by omega)
    rwa [Int.neg_tmod, Int.neg_mul_neg] at hr

theorem signedDivision {w : Nat} {a b : BitVec w} (hb : b.toInt ≠ 0)
    (h : a ≠ BitVec.intMin w ∨ b ≠ -1#w) : SignedDivision a b (BitVec.ofInt w (a.toInt.tdiv b.toInt))
      (BitVec.ofInt w (a.toInt - a.toInt.tdiv b.toInt * b.toInt)) := by
  have hq : a.toInt.tdiv b.toInt = (a.sdiv b).toInt := (BitVec.toInt_sdiv_of_ne_or_ne a b h).symm
  have hr : a.toInt - a.toInt.tdiv b.toInt * b.toInt = (a.srem b).toInt := by
    rw [BitVec.toInt_srem, Int.tmod_def, Int.mul_comm]
  rw [hr, hq, BitVec.ofInt_toInt, BitVec.ofInt_toInt]
  exact {
    equation := by rw [BitVec.toInt_srem, ← hq, Int.tdiv_mul_add_tmod]
    bound := BitVec.toInt_srem a b ▸ tmod_bound hb
    sign := BitVec.toInt_srem a b ▸ tmod_mul_nonneg .. }

/-- An unsigned division has the exact quotient and remainder as its words. -/
theorem unsignedDivision {w : Nat} {a b : BitVec w} (hb : b.toNat ≠ 0) :
    a.toNat = (BitVec.ofNat w (a.toNat / b.toNat)).toNat * b.toNat + (BitVec.ofNat w (a.toNat % b.toNat)).toNat
      ∧ (BitVec.ofNat w (a.toNat % b.toNat)).toNat < b.toNat := by
  have hr : a.toNat % b.toNat < b.toNat := Nat.mod_lt _ (Nat.pos_of_ne_zero hb)
  rw [BitVec.toNat_ofNat, BitVec.toNat_ofNat, Nat.mod_eq_of_lt (hr.trans b.isLt),
    Nat.mod_eq_of_lt (Nat.lt_of_le_of_lt (Nat.div_le_self ..) a.isLt), Nat.div_add_mod']
  exact ⟨rfl, hr⟩

section
variable {a b : Word}

theorem ne_min_or_ne_neg_one32 (h : ¬(a.toInt = -2 ^ 31 ∧ b.toInt = -1)) :
    a ≠ BitVec.intMin 32 ∨ b ≠ -1#32 := by
  by_contra hc
  push Not at hc
  exact h (by rw [hc.1, hc.2]; decide)

theorem divSigned32_exact (hb : b.toInt ≠ 0) (h : ¬(a.toInt = -2 ^ 31 ∧ b.toInt = -1)) :
    divSigned32 a b = ⟨(BitVec.ofInt 32 (a.toInt - a.toInt.tdiv b.toInt * b.toInt)).signExtend 64,
      (BitVec.ofInt 32 (a.toInt.tdiv b.toInt)).signExtend 64⟩ := by
  rw [divSigned32, if_neg hb, if_neg h, sext_word, sext_word]

theorem divUnsigned32_exact (hb : b.toNat ≠ 0) : divUnsigned32 a b =
    ⟨(BitVec.ofNat 32 (a.toNat % b.toNat)).signExtend 64, (BitVec.ofNat 32 (a.toNat / b.toNat)).signExtend 64⟩ := by
  rw [divUnsigned32, if_neg hb, sext_word, sext_word]

end

section
variable {a b : DWord}

theorem ne_min_or_ne_neg_one64 (h : ¬(a.toInt = -2 ^ 63 ∧ b.toInt = -1)) :
    a ≠ BitVec.intMin 64 ∨ b ≠ -1#64 := by
  by_contra hc
  push Not at hc
  exact h (by rw [hc.1, hc.2]; decide)

theorem divSigned64_exact (hb : b.toInt ≠ 0) (h : ¬(a.toInt = -2 ^ 63 ∧ b.toInt = -1)) : divSigned64 a b =
    ⟨BitVec.ofInt 64 (a.toInt - a.toInt.tdiv b.toInt * b.toInt), BitVec.ofInt 64 (a.toInt.tdiv b.toInt)⟩ := by
  rw [divSigned64, if_neg hb, if_neg h]

end

/-- Settles O17: the quotient and the remainder of each division are those of the numbers. -/
theorem divideExactly : Obligations.DivideExactly := by
  intro s rs rt
  refine ⟨fun hb ho => ?div, fun hb => ?divu, fun hb ho => ?ddiv, fun hb => ?ddivu⟩
  case div =>
    have hd := signedDivision hb (ne_min_or_ne_neg_one32 ho)
    exact ⟨_, _, completes_putHiLo rfl (divSigned32_exact hb ho), hd.equation, hd.bound, hd.sign⟩
  case divu => exact ⟨_, _, completes_putHiLo rfl (divUnsigned32_exact hb), unsignedDivision hb⟩
  case ddiv =>
    have hd := signedDivision hb (ne_min_or_ne_neg_one64 ho)
    exact ⟨_, _, completes_putHiLo rfl (divSigned64_exact hb ho), hd.equation, hd.bound, hd.sign⟩
  case ddivu => exact ⟨_, _, completes_putHiLo rfl (if_neg hb), unsignedDivision hb⟩

/-- Settles O18: the branches of R261. -/
theorem divideByZeroAndOverflow : Obligations.DivideByZeroAndOverflow := by
  intro s rs rt
  refine ⟨fun hb => ?div, fun hb => ?divu, fun hb => ?ddiv, fun hb => ?ddivu, fun ha hb => ?ddivOver,
    fun ha hb => ?divOver⟩
  case div => exact completes_putHiLo rfl ((if_pos hb).trans (by rw [sext_word]; rfl))
  case divu => exact completes_putHiLo rfl ((if_pos hb).trans (by rw [sext_word]; rfl))
  case ddiv => exact completes_putHiLo rfl (if_pos hb)
  case ddivu => exact completes_putHiLo rfl (if_pos hb)
  case ddivOver =>
    have hz : regInt s rt ≠ 0 := by omega
    exact completes_putHiLo rfl ((if_neg hz).trans (if_pos ⟨ha, hb⟩))
  case divOver =>
    have hz : lowInt s rt ≠ 0 := by omega
    exact completes_putHiLo rfl ((if_neg hz).trans (if_pos ⟨ha, hb⟩))

end Sys2Proof.Proofs

/-! The invariant (10_state.md R20, R30 to R45, 45_cop0_tlb.md R406): `Within` is closed under the operations that
build COP0 values, so every operation of the state keeps the reserved bits clear; then reset, and every shape of a
step. -/

namespace Sys2Proof.Proofs

open Sys2Proof.Machine Sys2Proof.Laws Sys2Proof.Safety

section
variable {n : Nat} {m v x : BitVec n}

theorem within_or (hv : Within m v) (hx : Within m x) : Within m (v ||| x) := by
  rw [Within] at *
  rw [BitVec.and_or_distrib_right, hv, hx, BitVec.or_zero]

theorem within_and (hv : Within m v) : Within m (v &&& x) := by
  rw [Within] at *
  rw [BitVec.and_assoc, BitVec.and_comm x, ← BitVec.and_assoc, hv, BitVec.zero_and]

theorem within_and_mask (hx : Within m x) : Within m (v &&& x) := by
  rw [BitVec.and_comm]
  exact within_and hx

theorem within_field {w k : Nat} {f : BitVec w} (h : Within m ((BitVec.allOnes w).setWidth n <<< k)) :
    Within m (f.setWidth n <<< k) := field_cleared h

theorem within_maskedWrite {k : BitVec n} (hk : Within m k) (hv : Within m v) : Within m (maskedWrite k v x) :=
  within_or (within_and hv) (within_and_mask hk)

end

section
variable {a b : Nat} {m x : BitVec a} {k y : BitVec b}

theorem within_zero : Within m 0#a := BitVec.zero_and

theorem within_allOnes : Within (BitVec.allOnes a) x := by
  rw [Within, BitVec.not_allOnes, BitVec.and_zero]

theorem within_append (hx : Within m x) (hy : Within k y) : Within (m ++ k) (x ++ y) := by
  rw [Within] at *
  rw [BitVec.not_append, BitVec.and_append, hx, hy, BitVec.zero_append_zero]

end

theorem within_causeSetIP {c : Word} (h : Within 0xB000FF7C#32 c) (m : BitVec 8) :
    Within 0xB000FF7C#32 (causeSetIP m c) :=
  within_or h (within_field (by unfold Within; decide))

theorem within_causeClearIP {c : Word} (h : Within 0xB000FF7C#32 c) (m : BitVec 8) :
    Within 0xB000FF7C#32 (causeClearIP m c) := within_and h

theorem within_causeWithBD {c : Word} (h : Within 0xB000FF7C#32 c) (d : Bool) :
    Within 0xB000FF7C#32 (causeWithBD d c) := by
  cases d with
  | false => exact within_and h
  | true => exact within_or h (by unfold Within; decide)

theorem within_causeWithCode {c : Word} (h : Within 0xB000FF7C#32 c) (code : BitVec 5) (cop : BitVec 2) :
    Within 0xB000FF7C#32 (causeWithCode code cop c) :=
  within_or (within_or (within_and h) (within_field (by unfold Within; decide)))
    (within_field (by unfold Within; decide))

section
variable {c : Cop0}

theorem cop0Inv_raise (h : Cop0Inv c) (kind : ExcKind) (cop : BitVec 2) (pc : VAddr) (d : Bool) :
    Cop0Inv (c.raise kind cop pc d) := by
  cases hx : statusEXL c.status with
  | false =>
    rw [raise_noexl hx]
    exact { h with
      status := within_or h.status (by unfold Within; decide)
      cause := within_causeWithCode (within_causeWithBD h.cause d) kind.code cop }
  | true =>
    rw [raise_exl hx]
    exact { h with cause := within_causeWithCode h.cause kind.code cop }

theorem cop0Inv_recordFault (h : Cop0Inv c) (va : VAddr) : Cop0Inv (c.recordFault va) :=
  { h with
    context := within_or (within_and h.context) (within_field (by unfold Within; decide))
    xContext := within_or (within_or (within_and h.xContext) (within_field (by unfold Within; decide)))
      (within_field (by unfold Within; decide))
    entryHi := within_or (within_or (within_and h.entryHi) (within_field (by unfold Within; decide)))
      (within_field (by unfold Within; decide)) }

theorem within_masked32 {m old : Word} {r : Cop0Reg} (hm : Within m (low32 (cop0Mask r))) (h : Within m old)
    (v : DWord) :
    Within m (masked32 r old v) := within_maskedWrite hm h

theorem within_masked64 {m old : DWord} {r : Cop0Reg} (hm : Within m (cop0Mask r)) (h : Within m old) (v : DWord) :
    Within m (masked64 r old v) := within_maskedWrite hm h

/-- Every write mask of R30 to R45 leaves the reserved bits out. -/
theorem cop0Inv_write (h : Cop0Inv c) (r : Cop0Reg) (v : DWord) : Cop0Inv (c.write r v) := by
  cases r with
  | index => exact { h with index := within_masked32 (by unfold Within; decide) h.index v }
  | entryLo0 => exact { h with entryLo0 := within_masked64 (by unfold Within; decide) h.entryLo0 v }
  | entryLo1 => exact { h with entryLo1 := within_masked64 (by unfold Within; decide) h.entryLo1 v }
  | context => exact { h with context := within_masked64 (by unfold Within; decide) h.context v }
  | pageMask => exact { h with pageMask := within_masked32 (by unfold Within; decide) h.pageMask v }
  | wired => exact { h with wired := within_masked32 (by unfold Within; decide) h.wired v }
  | entryHi => exact { h with entryHi := within_masked64 (by unfold Within; decide) h.entryHi v }
  | status => exact { h with status := within_masked32 (by unfold Within; decide) h.status v }
  | cause => exact { h with cause := within_masked32 (by unfold Within; decide) h.cause v }
  | xContext => exact { h with xContext := within_masked64 (by unfold Within; decide) h.xContext v }
  | compare => exact { h with cause := within_causeClearIP h.cause ipTimer }
  | badVAddr | count | epc | llAddr | errorEPC => exact { h with }

theorem within_entryLoOf (t : TlbHalf) (g : Bool) : Within 0x3FFFFFFF#64 (entryLoOf t g) := by
  have hm : 0x3FFFFFFF#64 = 0#34 ++ BitVec.allOnes 24 ++ BitVec.allOnes 3 ++ BitVec.allOnes 1 ++ BitVec.allOnes 1
      ++ BitVec.allOnes 1 := by decide
  rw [hm]
  exact within_append (within_append (within_append (within_append (within_append within_zero within_allOnes)
    within_allOnes) within_allOnes) within_allOnes) within_allOnes

theorem within_stagedHi (e : TlbEntry) :
    Within 0xC00000FFFFFFE0FF#64 (e.r ++ 0#22 ++ e.vpn2 ++ 0#5 ++ e.asid) := by
  have hm : 0xC00000FFFFFFE0FF#64 = BitVec.allOnes 2 ++ 0#22 ++ BitVec.allOnes 27 ++ 0#5 ++ BitVec.allOnes 8 := by
    decide
  rw [hm]
  exact within_append (within_append (within_append (within_append within_allOnes within_zero) within_allOnes)
    within_zero) within_allOnes

theorem within_stagedMask (m : BitVec 12) : Within 0x01FFE000#32 (0#7 ++ m ++ 0#13) := by
  have hm : 0x01FFE000#32 = 0#7 ++ BitVec.allOnes 12 ++ 0#13 := by decide
  rw [hm]
  exact within_append (within_append within_zero within_allOnes) within_zero

theorem cop0Inv_stage (h : Cop0Inv c) (e : TlbEntry) : Cop0Inv (c.stage e) :=
  { h with
    entryHi := within_stagedHi e
    pageMask := within_stagedMask e.mask
    entryLo0 := within_entryLoOf e.even e.g
    entryLo1 := within_entryLoOf e.odd e.g }

theorem within_index_lt {k : Nat} (h : k < 32) : Within 0x8000003F#32 (BitVec.ofNat 32 k) := by
  have hall : ∀ i : Fin 32, BitVec.ofNat 32 i.val &&& ~~~0x8000003F#32 = 0#32 := by decide
  exact hall ⟨k, h⟩

theorem within_probeIndex (tlb : Vector TlbEntry 32) (hi : DWord) : Within 0x8000003F#32 (probeIndex tlb hi) := by
  unfold probeIndex
  split
  · next hf => exact within_index_lt (tlbFind_lt hf)
  · exact by unfold Within; decide

theorem within_eretStatus {st : Word} (h : Within 0xFF57FFFF#32 st) : Within 0xFF57FFFF#32 (eretStatus st) := by
  unfold eretStatus
  split
  · exact within_and h
  · exact within_and h

theorem cop0Inv_event (h : Cop0Inv c) (e : EnvEvent) : Cop0Inv (c.event e) := by
  cases e with
  | irqSet l => exact { h with cause := within_causeSetIP h.cause l.bit }
  | irqClear l => exact { h with cause := within_causeClearIP h.cause l.bit }
  | busWrite pa b => exact h
  | timerTick =>
    have hc : Within 0xB000FF7C#32
        (if c.count + 1#32 = c.compare then causeSetIP ipTimer c.cause else c.cause) := by
      split
      · exact within_causeSetIP h.cause ipTimer
      · exact h.cause
    exact { h with cause := hc }

theorem cop0Inv_resetFrom (c : Cop0) : Cop0Inv c.resetFrom where
  index := within_and_mask (by unfold Within; decide)
  entryLo0 := within_and_mask (by unfold Within; decide)
  entryLo1 := within_and_mask (by unfold Within; decide)
  context := within_and_mask (by unfold Within; decide)
  pageMask := within_and_mask (by unfold Within; decide)
  wired := within_zero
  entryHi := within_and_mask (by unfold Within; decide)
  status := within_or (within_and_mask (by unfold Within; decide)) (by unfold Within; decide)
  cause := within_and_mask (by unfold Within; decide)
  xContext := within_and_mask (by unfold Within; decide)

end

theorem inv_resetFrom {u : State} (h : u.mem.wf = true) : Inv u.resetFrom where
  zero := Vector.getElem_set_self ..
  mem := h
  cop0 := cop0Inv_resetFrom u.cop0
  tlb i hi hw := by
    rw [resetFrom_tlb, Vector.getElem_map] at hw
    cases hw

/-- Settles O5. -/
theorem resetMeetsInvariant : Obligations.ResetMeetsInvariant := ⟨fun _ => inv_resetFrom, inv_resetFrom rfl⟩

section
variable {s : State}

theorem inv_writeReg (h : Inv s) (r : RegIdx) (v : DWord) : Inv (s.writeReg r v) :=
  { h with zero := writeGpr_keeps_zero h.zero r v }

theorem inv_raise (h : Inv s) (kind : ExcKind) (cop : BitVec 2) (pc : VAddr) (d : Bool) : Inv (s.raise kind cop pc d) :=
  { h with cop0 := cop0Inv_raise h.cop0 kind cop pc d }

theorem inv_raiseAddress (h : Inv s) (kind : ExcKind) (va pc : VAddr) : Inv (s.raiseAddress kind va pc) :=
  { h with cop0 := cop0Inv_raise (cop0Inv_recordFault h.cop0 va) kind 0 pc s.curDS }

theorem inv_tlbError (h : Inv s) (err : Option TlbFail) : Inv { s with tlbError := err } := { h with }

theorem inv_ports (h : Inv s) (ports : List Config.PortCall) : Inv { s with ports := ports } := { h with }

theorem wf_memAfterWrite (h : Inv s) (pa : PAddr) (w : Width) (v : DWord) : (s.memAfterWrite pa w v).wf = true :=
  wf_memWrite h.mem pa w v

theorem tlbEntryInv_stagedEntry (c : Cop0) : TlbEntryInv c.stagedEntry := by
  intro _
  simp only [Cop0.stagedEntry]
  rw [BitVec.and_assoc, BitVec.and_comm (~~~_), BitVec.and_not_self]
  exact BitVec.and_zero

theorem inv_tlbWrite (h : Inv s) (k : Fin 32) : Inv (s.tlbWrite k) :=
  { h with
    tlb := fun i hi => by
      rw [tlbWrite_tlb, Vector.getElem_set]
      split
      · exact tlbEntryInv_stagedEntry s.cop0
      · exact h.tlb i hi }

/-- Every shape of an instruction's next state keeps the invariant. -/
theorem inv_effect {i : Instr} {t : State} (h : Inv s) (he : Effect i s t) : Inv t := by
  cases he with
  | nothing => exact h
  | register r v => exact { inv_writeReg h r v with }
  | hilo => exact { h with }
  | raised kind cop ports => exact inv_raise (inv_ports h ports) ..
  | addressRaised kind va err => exact inv_raiseAddress (inv_tlbError h err) ..
  | branched r v => exact { inv_writeReg h r v with }
  | likely r v ports c target =>
    cases c with
    | true => exact { inv_writeReg h r v with }
    | false => exact { inv_writeReg h r v with }
  | stored pa w v => exact { h with mem := wf_memAfterWrite h pa w v }
  | linked r v ports pa =>
    exact { inv_writeReg h r v with cop0 := { h.cop0 with } }
  | conditional r u pa w v => exact { inv_writeReg h r u with mem := wf_memAfterWrite h pa w v }
  | lost r u => exact { inv_writeReg h r u with }
  | called => exact { h with }
  | moved r v => exact { h with cop0 := cop0Inv_write h.cop0 r v }
  | staged k => exact { h with cop0 := cop0Inv_stage h.cop0 _ }
  | tlbWritten k => exact { inv_tlbWrite h k with }
  | probed => exact { h with cop0 := { h.cop0 with index := within_probeIndex s.tlb s.cop0.entryHi } }
  | returned => exact { h with cop0 := { h.cop0 with status := within_eretStatus h.cop0.status } }

theorem inv_applyEvents (es : List EnvEvent) : ∀ {s : State}, Inv s → Inv (s.applyEvents es) := by
  induction es with
  | nil => exact id
  | cons e es ih =>
    exact fun h => ih { h with mem := wf_memAfterEvent h.mem e, cop0 := cop0Inv_event h.cop0 e }

theorem inv_beginStep (h : Inv s) : Inv s.beginStep := by
  unfold State.beginStep State.arrive
  split
  · exact { h with }
  · exact { inv_applyEvents _ h with }

theorem fetch_word {w : Word} {u : State} (h : s.fetch = .word w u) :
    ∃ pa, locate .load .word true s.pc s.pc s = .ok pa ∧ w = low32 (s.memRead pa .word).1
      ∧ u = (s.memRead pa .word).2 := by
  unfold State.fetch at h
  split at h
  · next pa hl =>
    cases h
    exact ⟨pa, hl, rfl, rfl⟩
  · cases h
  · cases h

theorem fetch_raised {u : State} (h : s.fetch = .raised u) : locate .load .word true s.pc s.pc s = .raised u := by
  unfold State.fetch at h
  split at h
  · cases h
  · next hl =>
    cases h
    exact hl
  · cases h

theorem inv_fetched (h : Inv s) {w : Word} {u : State} (hf : s.fetch = .word w u) : Inv u := by
  obtain ⟨pa, -, -, rfl⟩ := fetch_word hf
  exact { h with }

end

/-- Settles O6: the events, the fetch, an interrupt and each shape of an instruction's next state keep the invariant. -/
theorem stepKeepsInvariant : Obligations.StepKeepsInvariant := by
  intro s t h hs
  have hb : Inv s.beginStep := inv_beginStep h
  rcases step_cases hs with ⟨u, hf, rfl⟩ | ⟨w, u, hf, -, rfl⟩ | ⟨w, u, i, hf, -, -, hx⟩
  · obtain ⟨kind, err, rfl⟩ := locate_raised (fetch_raised hf)
    exact inv_raiseAddress (inv_tlbError hb err) ..
  · exact inv_raise (inv_fetched hb hf) ..
  · have hu : Inv u.advance := { inv_fetched hb hf with }
    exact inv_effect hu (exec_effect hx)

end Sys2Proof.Proofs

/-! Reset, the derived signals, the events of a gap and one step (10_state.md R26, R41, R42, R55, R56, R70,
60_exceptions.md R481, R490). -/

namespace Sys2Proof.Proofs

open Sys2Proof.Machine Sys2Proof.Laws Sys2Proof.Safety

-- The derived signals.

/-- The five cases of R55. -/
inductive ModeCase (st : Word) : Option Mode → Prop
  | level : st.getLsbD 1 = true ∨ st.getLsbD 2 = true → ModeCase st (some .kernel)
  | kernel : st.getLsbD 1 = false → st.getLsbD 2 = false → st.extractLsb' 3 2 = 0b00#2 → ModeCase st (some .kernel)
  | supervisor :
      st.getLsbD 1 = false → st.getLsbD 2 = false → st.extractLsb' 3 2 = 0b01#2 → ModeCase st (some .supervisor)
  | user : st.getLsbD 1 = false → st.getLsbD 2 = false → st.extractLsb' 3 2 = 0b10#2 → ModeCase st (some .user)
  | undefined : st.getLsbD 1 = false → st.getLsbD 2 = false → st.extractLsb' 3 2 = 0b11#2 → ModeCase st none

theorem modeCase (st : Word) : ModeCase st (modeOf st) := by
  have hk : ∀ k : BitVec 2, k = 0b00#2 ∨ k = 0b01#2 ∨ k = 0b10#2 ∨ k = 0b11#2 := by decide
  unfold modeOf
  split
  · next h => exact .level (Bool.or_eq_true_iff.mp h)
  · next h =>
    obtain ⟨hx, hl⟩ : statusEXL st = false ∧ statusERL st = false := by simpa using h
    rcases hk (statusKSU st) with h | h | h | h <;> rw [h]
    · exact .kernel hx hl h
    · exact .supervisor hx hl h
    · exact .user hx hl h
    · exact .undefined hx hl h

theorem is64_iff (st : Word) : is64 st = true ↔ (modeOf st = some .kernel ∧ st.getLsbD 7 = true)
    ∨ (modeOf st = some .supervisor ∧ st.getLsbD 6 = true) ∨ (modeOf st = some .user ∧ st.getLsbD 5 = true) := by
  unfold is64
  cases modeOf st with
  | none => simp
  | some m => cases m <;> simp [wideIn, statusKX, statusSX, statusUX]

theorem and_ne_zero_iff {n : Nat} (a b : BitVec n) :
    a &&& b ≠ 0#n ↔ ∃ k < n, a.getLsbD k = true ∧ b.getLsbD k = true := by
  constructor
  · intro h
    by_contra hc
    push Not at hc
    refine h (BitVec.eq_of_getLsbD_eq fun k hk => ?_)
    rw [BitVec.getLsbD_and, BitVec.getLsbD_zero, Bool.and_eq_false_imp]
    exact fun ha => Bool.eq_false_iff.mpr (hc k hk ha)
  · rintro ⟨k, -, ha, hb⟩ h
    have hk : (a &&& b).getLsbD k = true := by rw [BitVec.getLsbD_and, ha, hb]; rfl
    rw [h, BitVec.getLsbD_zero] at hk
    cases hk

theorem interruptDue_iff (s : State) : interruptDue s = true ↔
    (∃ n < 8, s.cop0.cause.getLsbD (8 + n) = true ∧ s.cop0.status.getLsbD (8 + n) = true)
      ∧ s.cop0.status.getLsbD 0 = true ∧ s.cop0.status.getLsbD 1 = false ∧ s.cop0.status.getLsbD 2 = false := by
  have hp : causeIP s.cop0.cause &&& statusIM s.cop0.status ≠ 0#8 ↔
      ∃ n < 8, s.cop0.cause.getLsbD (8 + n) = true ∧ s.cop0.status.getLsbD (8 + n) = true := by
    rw [and_ne_zero_iff]
    refine exists_congr fun n => and_congr_right fun hn => ?_
    rw [causeIP, statusIM, BitVec.getLsbD_extractLsb', BitVec.getLsbD_extractLsb', decide_eq_true hn, Bool.true_and,
      Bool.true_and]
  rw [interruptDue, Bool.and_eq_true, Bool.and_eq_true, Bool.and_eq_true, decide_eq_true_iff, hp, and_assoc, and_assoc,
    Bool.not_eq_true', Bool.not_eq_true']
  rfl

theorem modeCase_iff {st : Word} {m : Option Mode} (h : ModeCase st m) :
    (m = some .kernel ↔ st.getLsbD 1 = true ∨ st.getLsbD 2 = true ∨ st.extractLsb' 3 2 = 0b00#2)
      ∧ (m = some .supervisor ↔ st.getLsbD 1 = false ∧ st.getLsbD 2 = false ∧ st.extractLsb' 3 2 = 0b01#2)
      ∧ (m = some .user ↔ st.getLsbD 1 = false ∧ st.getLsbD 2 = false ∧ st.extractLsb' 3 2 = 0b10#2)
      ∧ (m = none ↔ st.getLsbD 1 = false ∧ st.getLsbD 2 = false ∧ st.extractLsb' 3 2 = 0b11#2) := by
  cases h with
  | level h => grind
  | kernel hx hl hk | supervisor hx hl hk | user hx hl hk | undefined hx hl hk =>
    simp only [hx, hl, hk]
    decide

/-- Settles O25, by the five cases of the mode. -/
theorem derivedSignals : Obligations.DerivedSignals := by
  intro st c s
  obtain ⟨hkernel, hsupervisor, huser, hnone⟩ := modeCase_iff (modeCase st)
  exact ⟨hkernel, hsupervisor, huser, hnone, is64_iff st, rfl, rfl, rfl, rfl, rfl, rfl, rfl, rfl, rfl,
    interruptDue_iff s⟩

-- The events of a gap.

/-- Settles O27: the tick sets the bit of the timer alone. -/
theorem timerTick : Obligations.TimerTick := by
  intro s
  refine ⟨_, rfl, fun h => if_neg h, fun h => ?_⟩
  have hbit : ∀ k, (causeSetIP ipTimer s.cop0.cause).getLsbD k = (s.cop0.cause.getLsbD k || decide (k = 15)) := by
    intro k
    rw [causeSetIP, show ipTimer.setWidth 32 <<< 8 = BitVec.twoPow 32 15 by decide, BitVec.getLsbD_or,
      BitVec.getLsbD_twoPow]
    simp [eq_comm]
  rw [if_pos h]
  exact ⟨by simp [hbit], fun k hk => by simp [hbit, hk]⟩

theorem applyEvents_eq_foldl (es : List EnvEvent) (s : State) :
    s.applyEvents es = es.foldl (fun v e => v.applyEvent e) s := by
  induction es generalizing s with
  | nil => rfl
  | cons e es ih => exact ih _

theorem arrive_nil {s : State} (h : s.schedule = []) : s.arrive = s := by simp only [State.arrive, h]

theorem arrive_cons {s : State} {es : List EnvEvent} {rest : List (List EnvEvent)} (h : s.schedule = es :: rest) :
    s.arrive = { s.applyEvents es with schedule := rest } := by simp only [State.arrive, h]

-- One step.

/-- A failing translation is never the cell of R115 that halts. -/
theorem excOf_of_xlate {kind : Access} {va : VAddr} {s : State} {k : TlbFail} (h : xlate kind va s = .fail k) :
    excOf k kind = some (faultKind k kind) := by
  cases kind with
  | store => cases k <;> rfl
  | load =>
    cases k with
    | miss | invalid | disallowedAddress => rfl
    | modification =>
      exfalso
      unfold xlate xlateIn xkphysPA tlbLookup tlbAccess at h
      split at h
      · split at h
        · cases h
        · cases h
        · split at h <;> cases h
        · split at h
          · cases h
          · split at h
            · cases h
            · simp at h
      · cases h

theorem xlate_undefined {kind : Access} {va : VAddr} {s : State} (h : modeOf s.cop0.status = none) :
    xlate kind va s = .undefinedMode := by simp only [xlate, h]

theorem locate_undefined {kind : Access} {w : Width} {ck : Bool} {va pc : VAddr} {s : State}
    (ha : ck = true → aligned w va = true) (hx : xlate kind va s = .undefinedMode) :
    locate kind w ck va pc s = .halted .undefinedMode := by
  have hc : (ck && !aligned w va) = false := by
    cases ck with
    | false => rfl
    | true => simp [ha rfl]
  simp [locate, hc, State.translate, hx]

section
variable {s : State}

theorem arrive_pc : s.arrive.pc = s.pc := by
  obtain ⟨-, -, -, h, -⟩ := arrive_frame s
  exact h

theorem arrive_nextPC : s.arrive.nextPC = s.nextPC := by
  obtain ⟨-, -, -, -, h, -⟩ := arrive_frame s
  exact h

theorem arrive_delaySlot : s.arrive.delaySlot = s.delaySlot := by
  obtain ⟨-, -, -, -, -, -, h, -⟩ := arrive_frame s
  exact h

theorem arrive_tlbError : s.arrive.tlbError = s.tlbError := by
  obtain ⟨-, -, -, -, -, -, -, -, -, h, -⟩ := arrive_frame s
  exact h

theorem beginStep_eq : s.beginStep = { s.arrive with curDS := s.delaySlot, delaySlot := false } := by
  rw [State.beginStep, State.latch, arrive_delaySlot]

theorem beginStep_pc : s.beginStep.pc = s.pc := arrive_pc

theorem fetch_ok {pa : PAddr} (ha : aligned .word s.pc = true) (hx : xlate .load s.pc s = .ok pa) :
    s.fetch = .word (low32 (s.memReadValue pa .word)) { s with ports := s.portsAfterRead pa .word } := by
  simp only [State.fetch, locate_of_xlate (fun _ => ha) hx, State.memRead]

/-- The fetch of a step, whatever follows it. -/
theorem step_of_fetch {pa : PAddr} (ha : aligned .word s.arrive.pc = true)
    (hx : xlate .load s.arrive.pc s.arrive = .ok pa) :
    step s =
      let u := { s.arrive with curDS := s.delaySlot, delaySlot := false, ports := s.arrive.portsAfterRead pa .word }
      if interruptDue s.arrive then .next u.takeInterrupt
      else stepWord (low32 (s.arrive.memReadValue pa .word)) u := by
  unfold step
  rw [beginStep_eq, fetch_ok (s := { s.arrive with curDS := s.delaySlot, delaySlot := false }) ha hx]
  rfl

theorem step_of_fetch_raised {u : State}
    (h : locate .load .word true s.beginStep.pc s.beginStep.pc s.beginStep = .raised u) : step s = .next u := by
  simp only [step, State.fetch, h]

theorem step_of_fetch_halted {f : Fault}
    (h : locate .load .word true s.beginStep.pc s.beginStep.pc s.beginStep = .halted f) : step s = .fault f := by
  simp only [step, State.fetch, h]

theorem stepWord_ok {w : Word} {i : Instr} (h : decode w = .ok i) : stepWord w s = exec i s.advance := by
  simp only [stepWord, h]

/-- A word that matches no row is reserved. -/
theorem stepWord_reserved {w : Word} (h : ∀ i : Instr, w &&& i.row.mask ≠ i.row.value) :
    stepWord w s = .fault (.reservedEncoding s.pc w) := by
  unfold stepWord
  split
  · next i hd => exact absurd (row_of_decode hd) (h i)
  · rfl

end

/-- Settles O7. -/
theorem stepRunsDecoded : Obligations.StepRunsDecoded := by
  rintro s _ rfl
  refine ⟨arrive_nil, fun es rest h => ?_, fun pa i ha hx hi hd => ?_⟩
  · rw [arrive_cons h, applyEvents_eq_foldl]
  · rw [step_of_fetch ha hx]
    simp only [hi, Bool.false_eq_true, if_false]
    rw [stepWord_ok hd, State.advance]
    simp only [arrive_pc, arrive_nextPC]

/-- Settles O8: the entry is made on the state after the read, whatever the word. -/
theorem stepTakesInterrupt : Obligations.StepTakesInterrupt := by
  rintro s _ pa rfl ha hx hi
  have hs := step_of_fetch ha hx
  simp only [hi, if_true] at hs
  rw [State.takeInterrupt, arrive_pc] at hs
  obtain ⟨-, -, hexl, -⟩ := (interruptDue_iff _).mp hi
  exact ⟨_, hs, entered_raise .., (entered_raise ..).epc hexl⟩

/-- Settles O9, by the four ways a fetch fails. -/
theorem stepFetchFails : Obligations.StepFetchFails := by
  rintro s _ rfl
  refine ⟨fun ha => ?misaligned, fun k ha hx => ?fail, fun pa w ha hx hi hw hr => ?reserved, fun ha hm => ?mode⟩
  case misaligned =>
    refine ⟨_, step_of_fetch_raised (locate_misaligned ha), ?_⟩
    rw [beginStep_pc, beginStep_eq, ← arrive_tlbError]
    exact faultEntered_raiseAddress ..
  case fail =>
    refine ⟨_, step_of_fetch_raised (locate_fail (s := s.beginStep) (fun _ => ha) hx (excOf_of_xlate hx)), ?_⟩
    rw [beginStep_pc, beginStep_eq]
    exact faultEntered_raiseAddress ..
  case reserved =>
    rw [step_of_fetch ha hx]
    simp only [hi, Bool.false_eq_true, if_false]
    rw [hw, stepWord_reserved hr]
    simp only [arrive_pc]
  case mode => exact step_of_fetch_halted (locate_undefined (fun _ => ha) (xlate_undefined hm))

-- Reset.

section
variable (u : State)

theorem status_resetFrom_bit (k : Nat) : u.resetFrom.cop0.status.getLsbD k =
    (u.cop0.status.getLsbD k && (0xF707FFFF#32).getLsbD k || (0x00400004#32).getLsbD k) := by
  rw [resetFrom_cop0, Cop0.resetFrom, BitVec.getLsbD_or, BitVec.getLsbD_and]

theorem statusERL_resetFrom : u.resetFrom.cop0.status.getLsbD 2 = true := by
  rw [status_resetFrom_bit]
  exact Bool.or_true _

theorem modeOf_resetFrom : modeOf u.resetFrom.cop0.status = some .kernel :=
  (modeCase_iff (modeCase _)).1.mpr (.inr (.inl (statusERL_resetFrom u)))

theorem interruptDue_resetFrom : interruptDue u.resetFrom = false := by
  refine Bool.eq_false_iff.mpr fun h => ?_
  obtain ⟨-, -, -, herl⟩ := (interruptDue_iff _).mp h
  exact Bool.eq_false_iff.mp herl (statusERL_resetFrom u)

/-- The first fetch is through kseg1, in both widths. -/
theorem xlate_resetFrom (kind : Access) : xlate kind u.resetFrom.pc u.resetFrom = .ok 0x1FC00000#32 :=
  congrArg Prod.fst (translate_kernel_direct (va := 0xFFFFFFFFBFC00000#64) (modeOf_resetFrom u)
    (fun _ => by decide) (.inr (by decide)) kind)

theorem status_resetFrom_kept :
    u.resetFrom.cop0.status &&& 0xF707FFFB#32 = u.cop0.status &&& 0xF707FFFB#32 := by
  rw [resetFrom_cop0, Cop0.resetFrom, BitVec.and_or_distrib_right, BitVec.and_assoc]
  exact BitVec.or_zero

theorem readReg_resetFrom {r : RegIdx} (h : r ≠ 0) : u.resetFrom.readReg r = u.readReg r := by
  have hn : r.toNat ≠ 0 := fun e => h (BitVec.eq_of_toNat_eq e)
  simp only [State.readReg, resetFrom_gpr, Vector.getElem_set_ne _ _ hn.symm]

end

theorem region_reset (pa : PAddr) : State.reset.region pa =
    some (if 0x1FC00000 ≤ pa.toNat ∧ pa.toNat < 0x20000000 then .rom else .ram) := by
  have hlt := pa.isLt
  simp only [State.region, State.reset, resetFrom_params, State.launch, Config.Params.withMap, Config.launchMap,
    Config.resetAddress, regionAt]
  split_ifs <;> grind

/-- Settles O4, from the table's values and what reset keeps. -/
theorem resetValues : Obligations.ResetValues := by
  intro u
  exact ⟨rfl, fun r hr => readReg_resetFrom u hr, rfl, rfl, rfl, rfl, statusERL_resetFrom u,
    (status_resetFrom_bit u 22).trans (Bool.or_true _), (status_resetFrom_bit u 20).trans (by simp),
    (status_resetFrom_bit u 21).trans (by simp), (status_resetFrom_bit u 27).trans (by simp), rfl,
    fun i h => by rw [resetFrom_tlb, Vector.getElem_map], modeOf_resetFrom u, interruptDue_resetFrom u,
    xlate_resetFrom u, rfl, rfl, rfl, rfl, rfl, status_resetFrom_kept u, (status_resetFrom_bit u 19).trans (by simp),
    (status_resetFrom_bit u 23).trans (by simp), rfl, rfl, rfl, rfl, rfl, rfl, rfl, rfl, rfl, rfl, rfl, rfl, rfl, rfl,
    fun i h => by rw [resetFrom_tlb, Vector.getElem_map], fun _ => rfl, ⟨rfl, rfl, rfl, rfl⟩, region_reset⟩

end Sys2Proof.Proofs

/-! Branches and jumps (42_branch_jump.md): what `branch` and `branchLikely` do to the PC side, once, and each form
as a use of it; then the bit of R178. -/

namespace Sys2Proof.Proofs

open Sys2Proof.Machine Sys2Proof.Laws Sys2Proof.Safety

-- Targets (R283, R284).

theorem branchTarget_eq (slot : VAddr) (imm : BitVec 16) :
    branchTarget slot imm = slot + BitVec.ofInt 64 (4 * imm.toInt) := by
  have h : (imm ++ 0#2).toInt = 4 * imm.toInt := by
    rw [BitVec.toInt_append]
    simp
  rw [branchTarget, branchOffset, BitVec.signExtend, h]

theorem getLsbD_regionMask {k : Nat} (hk : k < 64) : (0xFFFFFFFFF0000000#64).getLsbD k = decide (28 ≤ k) := by
  have h : ∀ i : Fin 64, (0xFFFFFFFFF0000000#64).getLsbD i.val = decide (28 ≤ i.val) := by decide
  exact h ⟨k, hk⟩

/-- The address's bits 63:28 over the shifted field. -/
theorem jumpTarget_eq (old : VAddr) (target : BitVec 26) :
    jumpTarget old target = old.extractLsb' 28 36 ++ target ++ 0#2 := by
  refine BitVec.eq_of_getLsbD_eq fun k hk => ?_
  simp only [jumpTarget, BitVec.getLsbD_or, BitVec.getLsbD_and, getLsbD_regionMask hk, BitVec.getLsbD_setWidth,
    BitVec.getLsbD_append, BitVec.getLsbD_zero, BitVec.getLsbD_extractLsb']
  grind

-- What a branch leaves alone, after a link or a call on the FPU.

theorem onlyControl_branch (s : State) (g : Vector DWord 32) (ports : List Config.PortCall) (b : Bool)
    (target : VAddr) : OnlyControl s ({ s with gpr := g, ports := ports }.branch b target) :=
  ⟨⟨rfl, rfl⟩, rfl, rfl, ⟨rfl, rfl⟩, rfl, rfl, fun _ => rfl, rfl, rfl, rfl⟩

theorem onlyControl_branchLikely (s : State) (g : Vector DWord 32) (ports : List Config.PortCall) (b : Bool)
    (target : VAddr) : OnlyControl s ({ s with gpr := g, ports := ports }.branchLikely b target) :=
  ⟨⟨rfl, rfl⟩, rfl, rfl, ⟨rfl, rfl⟩, rfl, rfl, fun _ => rfl, rfl, rfl, rfl⟩

-- Where it goes.

section
variable {s u : State} {b : Bool} {p : Prop} {target : VAddr}

theorem branched_branch (hpc : u.pc = s.pc) (hnext : u.nextPC = s.nextPC) (hb : b = true ↔ p) :
    Branched p target s (u.branch b target) := by
  refine ⟨fun hp => ⟨hpc, ?_, rfl⟩, fun hp => ⟨hpc, ?_, rfl⟩⟩
  · exact if_pos (hb.mpr hp)
  · exact (if_neg (mt hb.mp hp)).trans hnext

theorem likelyBranched_branchLikely (hpc : u.pc = s.pc) (hnext : u.nextPC = s.nextPC)
    (hslot : u.delaySlot = s.delaySlot) (hb : b = true ↔ p) :
    LikelyBranched p target s (u.branchLikely b target) := by
  constructor
  · intro hp
    have ht := hb.mpr hp
    exact ⟨(if_pos ht).trans hpc, if_pos ht, if_pos ht⟩
  · intro hp
    have hf := mt hb.mp hp
    exact ⟨(if_neg hf).trans hnext, (if_neg hf).trans (by rw [hnext]), (if_neg hf).trans hslot⟩

variable {i : Instr} {r : RegIdx} {q : State → State → Prop}

theorem moves_branch (h : exec i s = .next (s.branch b target)) (hq : q s (s.branch b target)) : Moves i s q :=
  ⟨_, h, hq, fun _ => rfl, rfl, onlyControl_branch ..⟩

theorem moves_branchLikely (h : exec i s = .next (s.branchLikely b target)) (hq : q s (s.branchLikely b target)) :
    Moves i s q :=
  ⟨_, h, hq, fun _ => rfl, rfl, onlyControl_branchLikely ..⟩

theorem movesAndLinks_branch (h : exec i s = .next ((s.link r).branch b target))
    (hq : q s ((s.link r).branch b target)) : MovesAndLinks i r s q :=
  ⟨_, h, hq, fun k => readReg_writeReg r k s.nextPC s, rfl, onlyControl_branch ..⟩

theorem movesAndLinks_branchLikely (h : exec i s = .next ((s.link r).branchLikely b target))
    (hq : q s ((s.link r).branchLikely b target)) : MovesAndLinks i r s q :=
  ⟨_, h, hq, fun k => readReg_writeReg r k s.nextPC s, rfl, onlyControl_branchLikely ..⟩

end

/-- Settles O21: each is a branch always taken. -/
theorem jumps : Obligations.Jumps := by
  intro s target rd rs
  have ht := jumpTarget_eq s.oldPC target
  exact ⟨moves_branch rfl ⟨rfl, ht, rfl⟩, movesAndLinks_branch rfl ⟨rfl, ht, rfl⟩, moves_branch rfl ⟨rfl, rfl, rfl⟩,
    movesAndLinks_branch rfl ⟨rfl, rfl, rfl⟩⟩

-- The conditions against zero.

section
variable {a : DWord}

theorem sle_zero_iff : a.sle 0 = true ↔ a.toInt ≤ 0 := decide_eq_true_iff

theorem zero_slt_iff : (0#64).slt a = true ↔ 0 < a.toInt := decide_eq_true_iff

theorem slt_zero_iff : a.slt 0 = true ↔ a.toInt < 0 := decide_eq_true_iff

theorem zero_sle_iff : (0#64).sle a = true ↔ 0 ≤ a.toInt := decide_eq_true_iff

end

/-- Settles O22, each form by its condition. -/
theorem branches : Obligations.Branches := by
  rintro s rs rt imm _ rfl
  rw [← branchTarget_eq]
  refine ⟨?beq, ?bne, ?blez, ?bgtz, ?bltz, ?bgez, ?bltzal, ?bgezal⟩
  case beq => exact moves_branch rfl (branched_branch rfl rfl beq_iff_eq)
  case bne => exact moves_branch rfl (branched_branch rfl rfl bne_iff_ne)
  case blez => exact moves_branch rfl (branched_branch rfl rfl sle_zero_iff)
  case bgtz => exact moves_branch rfl (branched_branch rfl rfl zero_slt_iff)
  case bltz => exact moves_branch rfl (branched_branch rfl rfl slt_zero_iff)
  case bgez => exact moves_branch rfl (branched_branch rfl rfl zero_sle_iff)
  case bltzal => exact movesAndLinks_branch rfl (branched_branch rfl rfl slt_zero_iff)
  case bgezal => exact movesAndLinks_branch rfl (branched_branch rfl rfl zero_sle_iff)

/-- Settles O23, each form by its condition. -/
theorem branchesLikely : Obligations.BranchesLikely := by
  rintro s rs rt imm _ rfl
  rw [← branchTarget_eq]
  refine ⟨?beql, ?bnel, ?blezl, ?bgtzl, ?bltzl, ?bgezl, ?bltzall, ?bgezall⟩
  case beql => exact moves_branchLikely rfl (likelyBranched_branchLikely rfl rfl rfl beq_iff_eq)
  case bnel => exact moves_branchLikely rfl (likelyBranched_branchLikely rfl rfl rfl bne_iff_ne)
  case blezl => exact moves_branchLikely rfl (likelyBranched_branchLikely rfl rfl rfl sle_zero_iff)
  case bgtzl => exact moves_branchLikely rfl (likelyBranched_branchLikely rfl rfl rfl zero_slt_iff)
  case bltzl => exact moves_branchLikely rfl (likelyBranched_branchLikely rfl rfl rfl slt_zero_iff)
  case bgezl => exact moves_branchLikely rfl (likelyBranched_branchLikely rfl rfl rfl zero_sle_iff)
  case bltzall => exact movesAndLinks_branchLikely rfl (likelyBranched_branchLikely rfl rfl rfl slt_zero_iff)
  case bgezall => exact movesAndLinks_branchLikely rfl (likelyBranched_branchLikely rfl rfl rfl zero_sle_iff)

-- The bit of R178.

theorem endsBlock_eq_listed (i : Instr) : i.endsBlock = listedBlockEnder i := by
  cases i <;> rfl

theorem endsBlock_of_decode {w : Word} {i : Instr} (h : decode w = .ok i) : endsBlock w = some i.endsBlock := by
  simp only [endsBlock, h]

theorem endsBlock_reserved {w : Word} (h : ∀ i : Instr, w &&& i.row.mask ≠ i.row.value) : endsBlock w = none := by
  unfold endsBlock
  split
  · next i hd => exact absurd (row_of_decode hd) (h i)
  · rfl

/-- Control stays, or has gone to a handler. -/
def Undirected (s t : State) : Prop :=
  t.delaySlot = s.delaySlot ∧ t.oldPC = s.oldPC
    ∧ ((t.pc = s.pc ∧ t.nextPC = s.nextPC)
      ∨ (statusEXL t.cop0.status = true ∧ t.nextPC = t.pc + 4#64
        ∧ ∃ off, off ∈ [0x000#64, 0x080#64, 0x180#64] ∧ t.pc = vectorBase s.cop0.status + off))

theorem undirected_raise {s u : State} (kind : ExcKind) (cop : BitVec 2) (pc : VAddr) (d : Bool)
    (hd : u.delaySlot = s.delaySlot) (ho : u.oldPC = s.oldPC) (hs : u.cop0.status = s.cop0.status) :
    Undirected s (u.raise kind cop pc d) :=
  ⟨hd, ho, .inr ⟨raise_sets_exl .., rfl, hs ▸ handler_offset kind u⟩⟩

/-- Of the shapes of a next state only those of block enders redirect. -/
theorem undirected_effect {i : Instr} {s t : State} (hi : i.endsBlock = false) (h : Effect i s t) : Undirected s t := by
  cases h with
  | raised => exact undirected_raise _ _ _ _ rfl rfl rfl
  | addressRaised => exact undirected_raise _ _ _ _ rfl rfl rfl
  | branched _ _ _ _ _ he | likely _ _ _ _ _ he => exact absurd he (Bool.eq_false_iff.mp hi)
  | returned _ he => exact absurd (he ▸ rfl) (Bool.eq_false_iff.mp hi)
  | nothing | register | hilo | stored | linked | conditional | lost | called | moved | staged | tlbWritten | probed =>
    exact ⟨rfl, rfl, .inl ⟨rfl, rfl⟩⟩

/-- Settles O24, by the rows and by the shapes of a next state. -/
theorem onlyBlockEndersRedirect : Obligations.OnlyBlockEndersRedirect := by
  refine fun w => ⟨endsBlock_reserved, fun i hd => ?_⟩
  rw [endsBlock_of_decode hd, endsBlock_eq_listed]
  refine ⟨rfl, fun s t he hx => undirected_effect ?_ (exec_effect hx)⟩
  rw [endsBlock_eq_listed]
  exact Option.some.inj he

end Sys2Proof.Proofs

/-! The floating-point interface (46_cop1_interface.md): unusable, and past the CU1 test one call on the FPU. -/

namespace Sys2Proof.Proofs

open Sys2Proof.Machine Sys2Proof.Laws Sys2Proof.Safety

/-- Every instruction of the interface is its work behind the CU1 test (R430). -/
theorem exec_cop1 {i : Instr} (hi : IsCop1 i) (s : State) : ∃ k, exec i s = withCop1 s k := by
  cases i
  case mfc1 | dmfc1 | cfc1 | mtc1 | dmtc1 | ctc1 => exact ⟨_, rfl⟩
  case bc1f | bc1t | bc1fl | bc1tl => exact ⟨_, rfl⟩
  case lwc1 | ldc1 | swc1 | sdc1 => exact ⟨_, rfl⟩
  case cop1S | cop1D | cop1W | cop1L => exact ⟨_, rfl⟩
  all_goals exact absurd hi (by simp [IsCop1, Instr.cls])

/-- Settles O56: the test comes first. -/
theorem cop1Unusable : Obligations.Cop1Unusable := by
  intro s i hu hi
  obtain ⟨k, hk⟩ := exec_cop1 hi s
  exact ⟨_, hk.trans (withCop1_closed hu k), entered_raise .., causeExcCode_raise ..⟩

section
variable {s : State} {i : Instr}

theorem onlyPorts_set (ports : List Config.PortCall) : OnlyPorts ports s { s with ports := ports } :=
  ⟨fun _ => rfl, ⟨rfl, rfl⟩, ⟨rfl, rfl, rfl, rfl, rfl⟩, ⟨rfl, rfl⟩, rfl, rfl, fun _ => rfl, rfl, rfl, rfl, rfl⟩

theorem fpuAsked_report {c : Config.PortCall} (h : exec i s = s.fpuReport c) : Completes i s (FpuAsked c s) := by
  cases hf : Config.answerFpe (c :: s.ports) with
  | false =>
    refine ⟨s.call c, h.trans (by rw [State.fpuReport, hf]; rfl), fun _ => onlyPorts_set _, fun ht => ?_⟩
    rw [hf] at ht
    cases ht
  | true =>
    refine ⟨_, h.trans (by rw [State.fpuReport, hf]; rfl), fun hfalse => ?_, fun _ => entered_raise ..⟩
    rw [hf] at hfalse
    cases hfalse

/-- A write of a general register after calls on outside agents. -/
theorem onlyRegMem_writeReg (r : RegIdx) (v : DWord) (ports : List Config.PortCall) :
    OnlyRegMem s ({ s with ports := ports }.writeReg r v) :=
  ⟨⟨rfl, rfl⟩, ⟨rfl, rfl, rfl, rfl, rfl⟩, ⟨rfl, rfl⟩, rfl, rfl, rfl, rfl, rfl⟩

end

/-- Settles O57: past the test, one call, and its answer. -/
theorem cop1MovesAndOperate : Obligations.Cop1MovesAndOperate := by
  rintro s rt fs low fn _ hu rfl
  refine ⟨fun i hi => ?fromFpu, fun i hi => ?toFpu, fun i hi => ?operate⟩
  case fromFpu =>
    have hx : exec i s = s.fpuToReg (encode i) rt := by
      simp only [List.mem_cons, List.not_mem_nil, or_false] at hi
      rcases hi with rfl | rfl | rfl <;> rfl
    exact ⟨_, hx.trans (withCop1_open hu _), fun q => readReg_writeReg rt q _ _, fun _ => rfl,
      onlyRegMem_writeReg .., rfl⟩
  case toFpu =>
    have hx : exec i s = s.regToFpu (encode i) rt := by
      simp only [List.mem_cons, List.not_mem_nil, or_false] at hi
      rcases hi with rfl | rfl | rfl <;> rfl
    exact fpuAsked_report (hx.trans (withCop1_open hu _))
  case operate =>
    have hx : exec i s = s.fpuOperate (encode i) := by
      simp only [List.mem_cons, List.not_mem_nil, or_false] at hi
      rcases hi with rfl | rfl | rfl | rfl <;> rfl
    exact fpuAsked_report (hx.trans (withCop1_open hu _))

/-- Settles O58: past the test, one call, and then the branch on its answer. -/
theorem cop1Branches : Obligations.Cop1Branches := by
  rintro s imm _ _ hu rfl rfl i p h
  rw [← branchTarget_eq] at h
  rcases h with ⟨rfl, rfl⟩ | ⟨rfl, rfl⟩ | ⟨rfl, rfl⟩ | ⟨rfl, rfl⟩
  · exact ⟨_, withCop1_open hu _, branched_branch rfl rfl beq_iff_eq, fun _ => rfl, rfl, onlyControl_branch ..⟩
  · exact ⟨_, withCop1_open hu _, branched_branch rfl rfl beq_iff_eq, fun _ => rfl, rfl, onlyControl_branch ..⟩
  · exact ⟨_, withCop1_open hu _, likelyBranched_branchLikely rfl rfl rfl beq_iff_eq, fun _ => rfl, rfl,
      onlyControl_branchLikely ..⟩
  · exact ⟨_, withCop1_open hu _, likelyBranched_branchLikely rfl rfl rfl beq_iff_eq, fun _ => rfl, rfl,
      onlyControl_branchLikely ..⟩

end Sys2Proof.Proofs

/-! Segments and the TLB lookup (20_memory.md R103 to R111, 45_cop0_tlb.md R406, R408): each column of the segment
tables by ranges, the lookup by its first match, and a written entry found again. -/

namespace Sys2Proof.Proofs

open Sys2Proof.Machine Sys2Proof.Laws Sys2Proof.Safety

-- The segments in 32-bit addressing (R103).

section
variable {a : Word} {m : Mode}

theorem seg32_user_high (h : 2 ^ 31 ≤ a.toNat) : seg32 .user a = .disallowed := by
  have hlt := a.isLt
  unfold seg32
  split
  case h_5 h4 h5 h6 h7 =>
    rw [imp_false, extractLsb'_eq_iff, BitVec.toNat_ofNat] at h4 h5 h6 h7
    omega
  all_goals rfl

theorem seg32_supervisor_high (h : 2 ^ 31 ≤ a.toNat) (hs : a.extractLsb' 29 3 ≠ 0b110#3) :
    seg32 .supervisor a = .disallowed := by
  have hlt := a.isLt
  unfold seg32
  split
  case h_3 h6 => exact absurd h6 hs
  case h_5 h4 h5 h6 h7 =>
    rw [imp_false, extractLsb'_eq_iff, BitVec.toNat_ofNat] at h4 h5 h6 h7
    omega
  all_goals rfl

theorem seg32_mapped (h : a.toNat ≤ 0x7FFFFFFF ∨ (m ≠ .user ∧ 0xC0000000 ≤ a.toNat ∧ a.toNat ≤ 0xDFFFFFFF)
    ∨ (m = .kernel ∧ 0xE0000000 ≤ a.toNat)) : seg32 m a = .mapped := by
  have hlt := a.isLt
  unfold seg32
  split
  case h_5 => rfl
  case h_1 h4 | h_2 h4 =>
    rw [extractLsb'_eq_iff, BitVec.toNat_ofNat] at h4
    omega
  case h_3 h6 =>
    rw [extractLsb'_eq_iff, BitVec.toNat_ofNat] at h6
    have hm : m ≠ .user := by
      rcases h with h | ⟨hm, -⟩ | ⟨rfl, -⟩
      · omega
      · exact hm
      · decide
    cases m with
    | kernel | supervisor => rfl
    | user => exact absurd rfl hm
  case h_4 h7 =>
    rw [extractLsb'_eq_iff, BitVec.toNat_ofNat] at h7
    obtain rfl : m = .kernel := by
      rcases h with h | ⟨-, h⟩ | ⟨hm, -⟩
      · omega
      · omega
      · exact hm
    rfl

end

-- The segments in 64-bit addressing (R104).

section
variable {va : VAddr} {m : Mode}

theorem seg64_user_high (h : 2 ^ 40 ≤ va.toNat) : seg64 .user va = .disallowed := if_neg (by bv_omega)

theorem seg64_supervisor_disallowed (h : 2 ^ 40 ≤ va.toNat) (hs : ¬(2 ^ 62 ≤ va.toNat ∧ va.toNat < 2 ^ 62 + 2 ^ 40))
    (hc : ¬(0xFFFFFFFFC0000000 ≤ va.toNat ∧ va.toNat < 0xFFFFFFFFE0000000)) :
    seg64 .supervisor va = .disallowed := by
  unfold seg64 seg64Supervisor
  dsimp only
  split_ifs <;> bv_omega

theorem seg64_kernel_disallowed (h : (0x0000010000000000 ≤ va.toNat ∧ va.toNat ≤ 0x3FFFFFFFFFFFFFFF)
    ∨ (0x4000010000000000 ≤ va.toNat ∧ va.toNat ≤ 0x7FFFFFFFFFFFFFFF)
    ∨ (0xC00000FF80000000 ≤ va.toNat ∧ va.toNat ≤ 0xFFFFFFFF7FFFFFFF)) : seg64 .kernel va = .disallowed := by
  unfold seg64 seg64Kernel
  dsimp only
  split_ifs <;> bv_omega

theorem seg64_mapped (h : va.toNat ≤ 0x000000FFFFFFFFFF
    ∨ (m ≠ .user ∧ 0x4000000000000000 ≤ va.toNat ∧ va.toNat ≤ 0x400000FFFFFFFFFF)
    ∨ (m = .kernel ∧ 0xC000000000000000 ≤ va.toNat ∧ va.toNat ≤ 0xC00000FF7FFFFFFF)
    ∨ (m ≠ .user ∧ 0xFFFFFFFFC0000000 ≤ va.toNat ∧ va.toNat ≤ 0xFFFFFFFFDFFFFFFF)
    ∨ (m = .kernel ∧ 0xFFFFFFFFE0000000 ≤ va.toNat)) : seg64 m va = .mapped := by
  cases m with
  | user =>
    simp only [ne_eq, not_true_eq_false, false_and, reduceCtorEq, or_false] at h
    exact if_pos (by bv_omega)
  | supervisor =>
    simp only [ne_eq, reduceCtorEq, not_false_eq_true, true_and, false_and, or_false, false_or] at h
    unfold seg64 seg64Supervisor
    dsimp only
    split_ifs <;> bv_omega
  | kernel =>
    simp only [ne_eq, reduceCtorEq, not_false_eq_true, true_and] at h
    unfold seg64 seg64Kernel
    dsimp only
    split_ifs <;> bv_omega

theorem segmentOf_mapped {wide : Bool} (h : InMapped m wide va) : segmentOf wide m va = .mapped := by
  cases wide with
  | true => exact seg64_mapped h
  | false => exact seg32_mapped h

end

section
variable {s : State} {m : Mode} {va : VAddr} (hm : modeOf s.cop0.status = some m) (kind : Access)
include hm

theorem xlate_disallowed (hs : segmentOf (is64 s.cop0.status) m va = .disallowed) :
    xlate kind va s = .fail .disallowedAddress := by
  rw [is64_of_mode hm] at hs
  simp only [xlate, hm, xlateIn, hs]

theorem xlate_mapped (hs : segmentOf (is64 s.cop0.status) m va = .mapped) : xlate kind va s =
    tlbLookup kind s.tlb (hiAsid s.cop0.entryHi) (effectiveVA (is64 s.cop0.status) va) := by
  rw [is64_of_mode hm] at hs ⊢
  simp only [xlate, hm, xlateIn, hs]

end

/-- Settles O32, by the columns of the segment tables. -/
theorem privilegeRestrictsSegments : Obligations.PrivilegeRestrictsSegments := by
  intro s kind va
  refine ⟨fun hm hw h => ?user32, fun hm hw h => ?user64, fun hm hw h hs => ?supervisor32,
    fun hm hw h hs hc => ?supervisor64, fun hm hw h => ?kernel64⟩
  case user32 => exact xlate_disallowed hm kind (by rw [hw]; exact seg32_user_high h)
  case user64 => exact xlate_disallowed hm kind (by rw [hw]; exact seg64_user_high h)
  case supervisor32 =>
    exact xlate_disallowed hm kind (by rw [hw]; exact seg32_supervisor_high h (low32_top va ▸ hs))
  case supervisor64 => exact xlate_disallowed hm kind (by rw [hw]; exact seg64_supervisor_disallowed h hs hc)
  case kernel64 => exact xlate_disallowed hm kind (by rw [hw]; exact seg64_kernel_disallowed h)

-- The lookup (R108, R114).

theorem matches_iff (e : TlbEntry) (asid : BitVec 8) (va : VAddr) : e.matches asid va = true ↔ Matches e asid va := by
  rw [TlbEntry.matches, Bool.and_eq_true, Bool.and_eq_true, Bool.and_eq_true, Bool.or_eq_true, beq_iff_eq, beq_iff_eq,
    beq_iff_eq, and_assoc, and_assoc]
  rfl

section
variable {s : State} {asid : BitVec 8} {va : VAddr}

theorem tlbFind_of_noMatch (h : NoMatch s asid va) : tlbFind s.tlb asid va = none := by
  refine tlbScan_none.mpr fun e he => Bool.eq_false_iff.mpr fun hm => ?_
  obtain ⟨i, hi, rfl⟩ := List.mem_iff_getElem.mp he
  have hlt : i < 32 := by simpa using hi
  exact h i hlt ((matches_iff ..).mp hm)

theorem tlbFind_of_firstMatch {i : Nat} (h : FirstMatch s asid va i) :
    ∃ hi : i < 32, tlbFind s.tlb asid va = some (i, s.tlb[i]) := by
  obtain ⟨hi, hm, hbefore⟩ := h
  refine ⟨hi, ?_⟩
  cases hf : tlbFind s.tlb asid va with
  | none =>
    have hn := tlbScan_none.mp hf s.tlb[i] (by simp)
    exact absurd ((matches_iff ..).mpr hm) (Bool.eq_false_iff.mp hn)
  | some p =>
    obtain ⟨j, e⟩ := p
    obtain ⟨k, rfl, hk, hme, hnone⟩ := tlbScan_some hf
    rw [Nat.zero_add]
    have hlt : k < 32 := by simpa using (List.getElem?_eq_some_iff.mp hk).1
    obtain rfl : s.tlb[k] = e := by simpa [hlt] using hk
    rcases Nat.lt_trichotomy k i with hki | rfl | hik
    · exact absurd ((matches_iff ..).mp hme) (hbefore k hki)
    · rfl
    · have hn := hnone i hik s.tlb[i] (by simp [hi])
      exact absurd ((matches_iff ..).mpr hm) (Bool.eq_false_iff.mp hn)

variable {m : Mode} (hm : modeOf s.cop0.status = some m) (hs : InMapped m (is64 s.cop0.status) va) (kind : Access)
include hm hs

theorem xlate_miss (h : NoMatch s (hiAsid s.cop0.entryHi) (effectiveVA (is64 s.cop0.status) va)) :
    xlate kind va s = .fail .miss := by
  rw [xlate_mapped hm kind (segmentOf_mapped hs), tlbLookup, tlbFind_of_noMatch h]

theorem xlate_hit {i : Nat} (h : FirstMatch s (hiAsid s.cop0.entryHi) (effectiveVA (is64 s.cop0.status) va) i) :
    ∃ hi : i < 32, xlate kind va s = tlbAccess kind s.tlb[i] (effectiveVA (is64 s.cop0.status) va) := by
  obtain ⟨hi, hf⟩ := tlbFind_of_firstMatch h
  exact ⟨hi, by rw [xlate_mapped hm kind (segmentOf_mapped hs), tlbLookup, hf]⟩

end

/-- The half of an entry by the address bit at the page-size boundary (R109). -/
theorem half_eq (e : TlbEntry) (va : VAddr) :
    e.half va = if va &&& (pageOffsetMask e.mask + 1#64) = 0#64 then e.even else e.odd := by
  rw [TlbEntry.half, oddHalf]
  by_cases h : va &&& (pageOffsetMask e.mask + 1#64) = 0#64
  · rw [if_pos h, if_neg (by simp [h])]
  · rw [if_neg h, if_pos (by simp [h])]

/-- Settles O33: a mapped segment goes to the lookup, and the lookup to the half of the first match. -/
theorem mappedLookup : Obligations.MappedLookup := by
  rintro s kind va _ m hm hs rfl
  refine ⟨xlate_miss hm hs kind, fun i h => ?_⟩
  obtain ⟨hi, hx⟩ := xlate_hit hm hs kind h
  refine ⟨hi, _, _, rfl, rfl, fun hv => ?_, fun hv hk hd => ?_, fun hv hd => ?_⟩
  · exact hx.trans (tlbAccess_invalid (half_eq .. ▸ hv) kind)
  · rw [hx, hk]
    exact tlbAccess_clean (half_eq .. ▸ hv) (half_eq .. ▸ hd)
  · rw [hx, tlbAccess_ok (half_eq .. ▸ hv) (half_eq .. ▸ hd), half_eq]
    rfl

end Sys2Proof.Proofs

/-! The system coprocessor (45_cop0_tlb.md): its gate, the moves register by register, the TLB instructions, ERET,
and who writes the special state. -/

namespace Sys2Proof.Proofs

open Sys2Proof.Machine Sys2Proof.Laws Sys2Proof.Safety

-- The gate (R400).

theorem cop0Gated_iff (s : State) : cop0Gated s = true ↔
    s.params.cop0Gate = true ∧ modeOf s.cop0.status ≠ some .kernel ∧ statusCU0 s.cop0.status = false := by
  rw [cop0Gated, Bool.and_eq_true, Bool.and_eq_true, decide_eq_true_iff, Bool.not_eq_true', and_assoc]

/-- Every instruction of the system coprocessor is its work behind the gate. -/
theorem exec_cop0 {i : Instr} (hi : IsCop0 i) (s : State) : ∃ k, exec i s = withCop0 s k := by
  cases i
  case mfc0 | dmfc0 | mtc0 | dmtc0 => exact ⟨_, rfl⟩
  case tlbr | tlbwi | tlbwr | tlbp | eret => exact ⟨_, rfl⟩
  all_goals exact absurd hi (by simp [IsCop0, Instr.cls])

/-- Settles O48. -/
theorem cop0Gate : Obligations.Cop0Gate := by
  intro s
  refine ⟨fun h => ?_, fun h => ?_, fun h => ?_, fun hg hm hu i hi => ?_⟩
  · exact Bool.eq_false_iff.mpr fun hc => Bool.eq_false_iff.mp h ((cop0Gated_iff s).mp hc).1
  · exact Bool.eq_false_iff.mpr fun hc => ((cop0Gated_iff s).mp hc).2.1 h
  · exact Bool.eq_false_iff.mpr fun hc => Bool.eq_false_iff.mp ((cop0Gated_iff s).mp hc).2.2 h
  · obtain ⟨k, hk⟩ := exec_cop0 hi s
    exact ⟨_, hk.trans (withCop0_closed ((cop0Gated_iff s).mpr ⟨hg, hm, hu⟩) k), entered_raise ..⟩

theorem tlbSlot_of_lt {i : BitVec 6} (h : i.toNat < 32) : tlbSlot i = some ⟨i.toNat, h⟩ := dif_pos h

theorem tlbSlot_of_ge {i : BitVec 6} (h : 32 ≤ i.toNat) : tlbSlot i = none := dif_neg (Nat.not_lt.mpr h)

/-- The numbers the spec does not list (R48). -/
theorem cop0Number_unlisted : ∀ n ∈ [7#5, 15#5, 16#5, 18#5, 19#5, 21#5, 22#5, 23#5, 24#5, 25#5, 26#5, 27#5, 28#5,
    29#5, 31#5], cop0Number n = .unlisted := by decide

section
variable {s : State} (hg : cop0Gated s = false)
include hg

-- Moves from (R401, R402, R407).

theorem readsAs {n : RegIdx} {v : DWord} {draws : Nat} (hv : s.cop0Value n = v)
    (hd : drawsAfterRead n s.draws = draws) : ReadsAs n v draws s := by
  have hmoved (rt : RegIdx) (u : DWord) : MovedFrom rt u draws s ((s.afterCop0Read n).writeReg rt u) :=
    ⟨fun q => readReg_writeReg rt q u _, fun _ => rfl, rfl, hd, ⟨rfl, rfl⟩, ⟨rfl, rfl, rfl, rfl, rfl⟩, ⟨rfl, rfl⟩, rfl,
      rfl, rfl, rfl⟩
  intro rt
  rw [← hv]
  exact ⟨⟨_, withCop0_open hg _, hmoved ..⟩, ⟨_, withCop0_open hg _, sext_word _ ▸ hmoved ..⟩⟩

end

theorem drawSlot_bounds (lo : Fin 32) (d : Nat) : lo.val ≤ (drawSlot lo d).val ∧ (drawSlot lo d).val ≤ 31 :=
  ⟨Nat.le_add_right .., Nat.le_of_lt_succ (drawSlot lo d).isLt⟩

theorem randomValue_bounds (c : Cop0) (d : Nat) :
    ((wiredField c).toNat ≤ 31 → (wiredField c).toNat ≤ (randomValue c d).toNat ∧ (randomValue c d).toNat ≤ 31)
      ∧ (randomValue c d).toNat ≤ 63 := by
  rcases Nat.lt_or_ge (wiredField c).toNat 32 with h | h
  · obtain ⟨hlo, hhi⟩ := drawSlot_bounds ⟨_, h⟩ d
    have hv : (randomValue c d).toNat = (drawSlot ⟨_, h⟩ d).val := by
      rw [randomValue, tlbSlot_of_lt h, BitVec.toNat_ofNat, Nat.mod_eq_of_lt (by omega)]
    rw [hv]
    exact ⟨fun _ => ⟨hlo, hhi⟩, by omega⟩
  · have hm : Config.freeIndex d % 64 < 64 := Nat.mod_lt _ (by decide)
    have hv : (randomValue c d).toNat = Config.freeIndex d % 64 := by
      rw [randomValue, tlbSlot_of_ge h, BitVec.toNat_ofNat, Nat.mod_eq_of_lt (by omega)]
    rw [hv]
    exact ⟨fun hc => absurd hc (by omega), by omega⟩

/-- Settles O49, register by register. -/
theorem moveFromCop0 : Obligations.MoveFromCop0 := by
  intro s hg
  have h64 {n : RegIdx} {v : DWord} (hv : s.cop0Value n = v) (hd : drawsAfterRead n s.draws = s.draws) :
      ReadsAs n v s.draws s := readsAs hg hv hd
  have h32 {n : RegIdx} {v : Word} (hv : s.cop0Value n = sext 32 v) (hd : drawsAfterRead n s.draws = s.draws) :
      ReadsAs n (v.signExtend 64) s.draws s := readsAs hg (hv.trans (sext_word v)) hd
  refine ⟨h32 rfl rfl, h64 rfl rfl, h64 rfl rfl, h64 rfl rfl, h32 rfl rfl, h32 rfl rfl, h64 rfl rfl, h32 rfl rfl,
    h64 rfl rfl, h32 rfl rfl, h32 rfl rfl, h32 rfl rfl, h64 rfl rfl, h32 rfl rfl, h64 rfl rfl, h64 rfl rfl,
    ⟨_, readsAs hg rfl rfl, randomValue_bounds s.cop0 s.draws⟩, fun n hn => ⟨_, readsAs hg rfl ?_⟩⟩
  rw [drawsAfterRead, cop0Number_unlisted n hn]

-- Moves to (R403, R404, R409).

theorem onlyCop0_set (c : Cop0) (s : State) : OnlyCop0 c s { s with cop0 := c } :=
  ⟨fun _ => rfl, ⟨rfl, rfl⟩, ⟨rfl, rfl, rfl, rfl, rfl⟩, ⟨rfl, rfl⟩, rfl, rfl, fun _ => rfl, ⟨rfl, rfl, rfl, rfl⟩⟩

theorem maskedWrite_none {n : Nat} (old v : BitVec n) : maskedWrite 0#n old v = old := by
  simp [maskedWrite]

theorem maskedWrite_all {n : Nat} (old v : BitVec n) : maskedWrite (BitVec.allOnes n) old v = v := by
  simp [maskedWrite]

section
variable {s : State} {rt : RegIdx} {f : RegIdx → Instr} {v : DWord} (hg : cop0Gated s = false) (hf : MovesTo rt s f v)
include hg hf

theorem exec_movesTo (n : RegIdx) : exec (f n) s = s.cop0Write n v := by
  rcases hf with ⟨rfl, rfl⟩ | ⟨rfl, rfl⟩
  · exact (withCop0_open hg _).trans (by rw [sext]; rfl)
  · exact withCop0_open hg _

theorem completes_movesTo {n : RegIdx} (r : Cop0Reg) {c : Cop0} (hr : cop0Number n = .reg r)
    (hc : s.cop0.write r v = c) : Completes (f n) s (OnlyCop0 c s) := by
  refine ⟨_, (exec_movesTo hg hf n).trans ?_, onlyCop0_set c s⟩
  rw [State.cop0Write, hr, ← hc]

end

/-- Settles O50, register by register. -/
theorem moveToCop0 : Obligations.MoveToCop0 := by
  intro s rt f v hg hf
  refine ⟨?index, ?entryLo0, ?entryLo1, ?context, ?pageMask, ?wired, ?badVAddr, ?count, ?entryHi, ?compare, ?status,
    ?cause, ?epc, ?llAddr, ?xContext, ?errorEPC, ?random, fun n hn => ?unlisted⟩
  case index => exact completes_movesTo hg hf .index rfl rfl
  case entryLo0 => exact completes_movesTo hg hf .entryLo0 rfl rfl
  case entryLo1 => exact completes_movesTo hg hf .entryLo1 rfl rfl
  case context => exact completes_movesTo hg hf .context rfl rfl
  case pageMask => exact completes_movesTo hg hf .pageMask rfl rfl
  case wired => exact completes_movesTo hg hf .wired rfl rfl
  case badVAddr =>
    exact completes_movesTo hg hf .badVAddr rfl (by rw [Cop0.write, masked64, cop0Mask, maskedWrite_none])
  case count =>
    have hv : masked32 .count s.cop0.count v = low32 v := maskedWrite_all ..
    exact completes_movesTo hg hf .count rfl (by rw [Cop0.write, hv])
  case entryHi => exact completes_movesTo hg hf .entryHi rfl rfl
  case compare =>
    refine completes_movesTo hg hf .compare rfl ?_
    have hv : masked32 .compare s.cop0.compare v = low32 v := maskedWrite_all ..
    rw [Cop0.write, hv]
    rfl
  case status => exact completes_movesTo hg hf .status rfl rfl
  case cause => exact completes_movesTo hg hf .cause rfl rfl
  case epc =>
    have hv : masked64 .epc s.cop0.epc v = v := maskedWrite_all ..
    exact completes_movesTo hg hf .epc rfl (by rw [Cop0.write, hv])
  case llAddr =>
    have hv : masked32 .llAddr s.cop0.llAddr v = low32 v := maskedWrite_all ..
    exact completes_movesTo hg hf .llAddr rfl (by rw [Cop0.write, hv])
  case xContext => exact completes_movesTo hg hf .xContext rfl rfl
  case errorEPC =>
    have hv : masked64 .errorEPC s.cop0.errorEPC v = v := maskedWrite_all ..
    exact completes_movesTo hg hf .errorEPC rfl (by rw [Cop0.write, hv])
  case random => exact exec_movesTo hg hf 1
  case unlisted =>
    have hx := exec_movesTo hg hf n
    rw [State.cop0Write, cop0Number_unlisted n hn] at hx
    exact ⟨fun h => by rw [hx, h], fun h => by rw [hx, h]⟩

-- The TLB instructions (R405, R406, R410 to R413).

theorem stagedAs_stagedEntry (c : Cop0) : StagedAs c c.stagedEntry := ⟨rfl, rfl, rfl, rfl, rfl, rfl, rfl, rfl⟩

theorem onlyTlbEntry_tlbWrite (k : Fin 32) (draws : Nat) (s : State) :
    OnlyTlbEntry k.val s.cop0.stagedEntry draws s { s.tlbWrite k with draws := draws } where
  entry _ := Vector.getElem_set_self ..
  others _ h hj := Vector.getElem_set_ne k.isLt h hj.symm
  regs _ := rfl
  hilo := ⟨rfl, rfl⟩
  pcs := ⟨rfl, rfl, rfl, rfl, rfl⟩
  latches := ⟨rfl, rfl⟩
  cop0 := rfl
  bytes _ := rfl
  params := rfl
  schedule := rfl
  ports := rfl
  draws := rfl

section
variable {s : State} (hg : cop0Gated s = false)
include hg

theorem exec_tlbwi (h : (indexField s.cop0).toNat < 32) : exec .tlbwi s = .next (s.tlbWrite ⟨_, h⟩) :=
  (withCop0_open hg _).trans (by rw [State.tlbWriteIndexed, tlbSlot_of_lt h])

theorem exec_tlbr (h : (indexField s.cop0).toNat < 32) : exec .tlbr s = .next (s.tlbRead ⟨_, h⟩) :=
  (withCop0_open hg _).trans (by rw [State.tlbReadIndexed, tlbSlot_of_lt h])

theorem exec_tlbwr (h : (wiredField s.cop0).toNat < 32) :
    exec .tlbwr s = .next { s.tlbWrite (drawSlot ⟨_, h⟩ s.draws) with draws := s.draws + 1 } :=
  (withCop0_open hg _).trans (by rw [State.tlbWriteRandom, tlbSlot_of_lt h])

theorem exec_tlbwi_halts (h : 32 ≤ (indexField s.cop0).toNat) :
    exec .tlbwi s = .fault (.tlbIndexOutOfRange (indexField s.cop0)) :=
  (withCop0_open hg _).trans (by rw [State.tlbWriteIndexed, tlbSlot_of_ge h])

theorem exec_tlbr_halts (h : 32 ≤ (indexField s.cop0).toNat) :
    exec .tlbr s = .fault (.tlbIndexOutOfRange (indexField s.cop0)) :=
  (withCop0_open hg _).trans (by rw [State.tlbReadIndexed, tlbSlot_of_ge h])

theorem exec_tlbwr_halts (h : 32 ≤ (wiredField s.cop0).toNat) :
    exec .tlbwr s = .fault (.tlbIndexOutOfRange (wiredField s.cop0)) :=
  (withCop0_open hg _).trans (by rw [State.tlbWriteRandom, tlbSlot_of_ge h])

end

/-- Settles O51, by whether the index names an entry. -/
theorem tlbReadAndWrite : Obligations.TlbReadAndWrite := by
  rintro s _ hg rfl
  refine ⟨fun h => ?_, fun h => ?_, fun h => ⟨exec_tlbwi_halts hg h, exec_tlbr_halts hg h⟩, fun h => ?_,
    exec_tlbwr_halts hg⟩
  · exact ⟨_, exec_tlbwi hg h, _, stagedAs_stagedEntry s.cop0, onlyTlbEntry_tlbWrite ⟨_, h⟩ s.draws s⟩
  · exact ⟨_, exec_tlbr hg h, onlyCop0_set ..⟩
  · obtain ⟨hlo, hhi⟩ := drawSlot_bounds ⟨_, h⟩ s.draws
    exact ⟨_, exec_tlbwr hg h, _, _, hlo, Nat.lt_succ_of_le hhi, stagedAs_stagedEntry s.cop0,
      onlyTlbEntry_tlbWrite _ (s.draws + 1) s⟩

/-- Settles O52, by the first match. -/
theorem tlbProbe : Obligations.TlbProbe := by
  intro s hg
  have hx : exec .tlbp s = .next s.tlbProbe := withCop0_open hg _
  refine ⟨fun i h => ?_, fun h => ?_⟩
  · obtain ⟨hi, hf⟩ := tlbFind_of_firstMatch h
    have hp : probeIndex s.tlb s.cop0.entryHi = BitVec.ofNat 32 i := by
      rw [probeIndex, hiAsid, hf]
    exact ⟨_, hx, hp ▸ onlyCop0_set ..⟩
  · have hp : probeIndex s.tlb s.cop0.entryHi = 0x80000000#32 := by
      rw [probeIndex, hiAsid, tlbFind_of_noMatch h]
    exact ⟨_, hx, hp ▸ onlyCop0_set ..⟩

/-- Settles O54, by ERL. -/
theorem returnFromException : Obligations.ReturnFromException := by
  intro s hg
  refine ⟨_, withCop0_open hg _, fun h => ⟨if_pos h, ?_⟩, fun h => ⟨if_neg (by simp [h]), ?_⟩, rfl, rfl, rfl, rfl, rfl,
    fun _ => rfl, ⟨rfl, rfl⟩, rfl, rfl, fun _ => rfl, ⟨rfl, rfl, rfl, rfl⟩⟩
  · rw [returnFromException_cop0, eretStatus, if_pos h]
    rfl
  · rw [returnFromException_cop0, eretStatus, if_neg (by simp [h])]
    rfl

-- An entry written and found again (R406).

/-- A low address is its own sign-extended low word. -/
theorem effectiveVA_low {va : VAddr} (h : va.toNat < 2 ^ 31) : effectiveVA false va = va := by
  have hlow : (va.setWidth 32).toInt = va.toInt := by
    rw [BitVec.toInt_eq_toNat_of_lt, BitVec.toInt_eq_toNat_of_lt (by omega), BitVec.toNat_setWidth,
      Nat.mod_eq_of_lt (by omega)]
    rw [BitVec.toNat_setWidth]
    omega
  rw [effectiveVA, if_neg Bool.false_ne_true, sext, BitVec.signExtend, hlow, BitVec.ofInt_toInt]

/-- The frame of a 4 KiB page and the page offset. -/
theorem framePA_small (pfn : BitVec 24) (va : VAddr) :
    framePA pfn 0#12 va = (pfn ++ va.extractLsb' 0 12).setWidth 32 := by
  refine BitVec.eq_of_getLsbD_eq fun k hk => ?_
  have hmask : pageOffsetMask 0#12 = (BitVec.allOnes 12).setWidth 64 := by decide
  simp only [framePA, hmask, BitVec.getLsbD_setWidth, BitVec.getLsbD_or, BitVec.getLsbD_and, BitVec.getLsbD_shiftLeft,
    BitVec.getLsbD_append, BitVec.getLsbD_extractLsb', BitVec.getLsbD_allOnes]
  grind

/-- Bit 12 chooses the half of a pair of 4 KiB pages. -/
theorem half_small {e : TlbEntry} (he : e.mask = 0#12) (va : VAddr) :
    e.half va = if va.getLsbD 12 then e.odd else e.even := by
  have hbit : pageOffsetMask 0#12 + 1#64 = BitVec.twoPow 64 12 := by decide
  rw [half_eq, he, hbit, BitVec.and_twoPow]
  cases va.getLsbD 12 with
  | true => rfl
  | false => rfl

section
variable {c : Cop0} {va : VAddr} {asid : BitVec 8} (hmask : c.pageMask = 0#32)
  (hvpn : va.extractLsb' 13 27 = c.entryHi.extractLsb' 13 27) (hr : va.extractLsb' 62 2 = c.entryHi.extractLsb' 62 2)

include hmask in
theorem stagedEntry_mask : c.stagedEntry.mask = 0#12 := by
  have h : maskField 0#32 = 0#12 := by decide
  rw [Cop0.stagedEntry, hmask, h]

include hvpn hr in
/-- The staged entry of a 4 KiB pair matches its own pages, in its own address space and, when global, in all. -/
theorem matches_stagedEntry_iff : Matches c.stagedEntry asid va ↔
    (c.entryLo0.getLsbD 0 && c.entryLo1.getLsbD 0) = true ∨ c.entryHi.extractLsb' 0 8 = asid := by
  have hv : c.stagedEntry.vpn2 = va.extractLsb' 13 27 &&& ~~~(c.stagedEntry.mask.setWidth 27) :=
    hvpn ▸ rfl
  refine ⟨fun ⟨_, _, _, h⟩ => h, fun h => ⟨rfl, hr.symm, ?_, h⟩⟩
  rw [hv, BitVec.and_assoc, BitVec.and_self]

end

section
variable {s : State} {k : Fin 32} {asid : BitVec 8} {va : VAddr}
  (hothers : ∀ j (h : j < 32), j ≠ k.val → ¬Matches (s.tlb[j]'h) asid va)
include hothers

theorem firstMatch_tlbWrite (hm : Matches s.cop0.stagedEntry asid va) : FirstMatch (s.tlbWrite k) asid va k.val := by
  have hw := onlyTlbEntry_tlbWrite k s.draws s
  refine ⟨k.isLt, hw.entry k.isLt ▸ hm, fun j hj => ?_⟩
  exact hw.others j (hj.trans k.isLt) (Nat.ne_of_lt hj) ▸ hothers j (hj.trans k.isLt) (Nat.ne_of_lt hj)

theorem noMatch_tlbWrite (hm : ¬Matches s.cop0.stagedEntry asid va) : NoMatch (s.tlbWrite k) asid va := by
  have hw := onlyTlbEntry_tlbWrite k s.draws s
  intro j hj
  by_cases he : j = k.val
  · subst he
    exact hw.entry hj ▸ hm
  · exact hw.others j hj he ▸ hothers j hj he

end

theorem inMapped_low {va : VAddr} (h : va.toNat < 2 ^ 31) : InMapped .kernel false va :=
  .inl (by rw [low32, BitVec.toNat_setWidth]; omega)

section
variable {s : State} {va : VAddr} (hm : modeOf s.cop0.status = some .kernel) (hw : is64 s.cop0.status = false)
  (hlow : va.toNat < 2 ^ 31) (kind : Access)
include hm hw hlow

theorem xlate_low_hit {i : Nat} (h : FirstMatch s (hiAsid s.cop0.entryHi) va i) :
    ∃ hi : i < 32, xlate kind va s = tlbAccess kind s.tlb[i] va := by
  have hx := xlate_hit (i := i) hm (hw ▸ inMapped_low hlow) kind
  rw [hw, effectiveVA_low hlow] at hx
  exact hx h

theorem xlate_low_miss (h : NoMatch s (hiAsid s.cop0.entryHi) va) : xlate kind va s = .fail .miss := by
  have hx := xlate_miss hm (hw ▸ inMapped_low hlow) kind
  rw [hw, effectiveVA_low hlow] at hx
  exact hx h

end

/-- Settles O53: the written entry is the one that matches, and bit 12 of the address chooses its half. -/
theorem tlbWriteThenTranslate : Obligations.TlbWriteThenTranslate := by
  intro s t kind va asid hg hm hw hmask hlow hvpn hregion hx hothers
  have hr : va.extractLsb' 62 2 = s.cop0.entryHi.extractLsb' 62 2 := by
    rw [hregion, extractLsb'_eq_iff, BitVec.toNat_ofNat]
    omega
  have hi : (indexField s.cop0).toNat < 32 := by
    by_contra hge
    rw [exec_tlbwi_halts hg (Nat.le_of_not_lt hge)] at hx
    cases hx
  obtain rfl : s.tlbWrite ⟨_, hi⟩ = t := by
    rw [exec_tlbwi hg hi] at hx
    cases hx
    rfl
  have hmatch := matches_stagedEntry_iff (asid := asid) hvpn hr
  have hsmall := stagedEntry_mask hmask
  have hfound (ha : asid = s.cop0.entryHi.extractLsb' 0 8) :
      xlate kind va (s.tlbWrite ⟨_, hi⟩) = tlbAccess kind s.cop0.stagedEntry va := by
    have hfirst := firstMatch_tlbWrite (k := ⟨_, hi⟩) hothers (hmatch.mpr (.inr ha.symm))
    rw [ha] at hfirst
    obtain ⟨_, hh⟩ := xlate_low_hit (s := s.tlbWrite ⟨_, hi⟩) hm hw hlow kind hfirst
    rw [hh, (onlyTlbEntry_tlbWrite ⟨_, hi⟩ s.draws s).entry hi]
  refine ⟨fun ha hb hv hd => ?even, fun ha hb hv hd => ?odd, fun ha hglobal u htlb hst hasid => ?other⟩
  case even =>
    have he : s.cop0.stagedEntry.half va = s.cop0.stagedEntry.even := by rw [half_small hsmall, hb]; rfl
    rw [hfound ha, tlbAccess_ok (he ▸ hv) fun _ => he ▸ hd, he, hsmall, framePA_small]
    rfl
  case odd =>
    have he : s.cop0.stagedEntry.half va = s.cop0.stagedEntry.odd := by rw [half_small hsmall, hb]; rfl
    rw [hfound ha, tlbAccess_ok (he ▸ hv) fun _ => he ▸ hd, he, hsmall, framePA_small]
    rfl
  case other =>
    have hno : NoMatch (s.tlbWrite ⟨_, hi⟩) asid va := by
      refine noMatch_tlbWrite hothers fun hc => ?_
      rcases hmatch.mp hc with hglob | hsame
      · rw [hglobal] at hglob
        cases hglob
      · exact ha hsame.symm
    refine xlate_low_miss (hst ▸ hm) (hst ▸ hw) hlow kind ?_
    rw [hiAsid, hasid]
    simpa only [NoMatch, htlb] using hno

-- Who writes the special state.

/-- Settles O55, by the shapes of a next state. -/
theorem specialStateWriters : Obligations.SpecialStateWriters := by
  intro i s t h
  have hstore : Storing i → ¬∀ x, accessOf i = some x → x.kind = .load := by
    rintro ⟨x, hx, hk⟩ hl
    rw [hl x hx] at hk
    cases hk
  cases exec_effect h with
  | nothing | register | hilo | raised | addressRaised | branched | likely | called | moved | staged | probed =>
    exact ⟨fun _ _ => rfl, fun _ _ => rfl, fun _ _ => rfl⟩
  | stored _ _ _ _ hs => exact ⟨fun _ _ => rfl, fun _ _ => rfl, fun hl => absurd hl (hstore hs)⟩
  | linked _ _ _ _ hc => exact ⟨fun _ _ => rfl, fun hn => absurd hc hn, fun _ _ => rfl⟩
  | conditional _ _ _ _ _ _ hc hs => exact ⟨fun _ _ => rfl, fun hn => absurd hc hn, fun hl => absurd hl (hstore hs)⟩
  | lost _ _ hc => exact ⟨fun _ _ => rfl, fun hn => absurd hc hn, fun _ _ => rfl⟩
  | tlbWritten _ _ _ hw =>
    exact ⟨fun h1 h2 => absurd hw (not_or.mpr ⟨h1, h2⟩), fun _ _ => rfl, fun _ _ => rfl⟩
  | returned _ he => exact ⟨fun _ _ => rfl, fun _ hn => absurd he hn, fun _ _ => rfl⟩

end Sys2Proof.Proofs

/-! The MemoryPort (20_memory.md R92, R93, R136): the bytes of a datum say it all, a write puts the bytes of its
datum, and a read after it gives them back. -/

namespace Sys2Proof.Proofs

open Sys2Proof.Machine Sys2Proof.Laws Sys2Proof.Safety

-- The bytes of a datum.

section
variable {n : Nat}

/-- A slice inside both widths is the same before and after a change of width. -/
theorem extract_setWidth {m p l : Nat} (v : BitVec n) (h : p + l ≤ m) :
    (v.setWidth m).extractLsb' p l = v.extractLsb' p l := by
  refine BitVec.eq_of_getLsbD_eq fun i hi => ?_
  simp only [BitVec.getLsbD_extractLsb', BitVec.getLsbD_setWidth, hi, decide_true, Bool.true_and,
    show p + i < m by omega]

theorem extract_signExtend {m p l : Nat} (v : BitVec n) (h : p + l ≤ n) (hm : p + l ≤ m) :
    (v.signExtend m).extractLsb' p l = v.extractLsb' p l := by
  refine BitVec.eq_of_getLsbD_eq fun i hi => ?_
  simp only [BitVec.getLsbD_extractLsb', BitVec.getLsbD_signExtend, hi, decide_true, Bool.true_and,
    show p + i < m by omega, show p + i < n by omega, if_true]

end

theorem byteAt_zext (w : Width) (v : DWord) {k : Nat} (hk : k < w.bytes) :
    byteAt w (zext w.bits v) k = byteAt w v k := by
  have hb : w.bits = 8 * w.bytes := rfl
  have h64 : w.bytes ≤ 8 := by cases w <;> decide
  rw [byteAt, byteAt, zext, extract_setWidth _ (by omega), extract_setWidth _ (by omega)]

theorem zext_toNat (w : Width) (v : DWord) : (zext w.bits v).toNat = v.toNat % 2 ^ w.bits := by
  rw [zext, BitVec.toNat_setWidth, BitVec.toNat_setWidth]
  refine Nat.mod_eq_of_lt (Nat.lt_of_le_of_lt (Nat.mod_le ..) v.isLt)

/-- Two data of a width with the same bytes are equal. -/
theorem eq_of_bytes {w : Width} {a b : DWord} (ha : a.toNat < 2 ^ w.bits) (hb : b.toNat < 2 ^ w.bits)
    (h : ∀ k, k < w.bytes → byteAt w a k = byteAt w b k) : a = b := by
  refine BitVec.eq_of_getLsbD_eq fun i hi => ?_
  by_cases hw : i < w.bits
  · have hbits : w.bits = 8 * w.bytes := rfl
    have hk := congrArg (fun x => x.getLsbD (i % 8)) (h (w.bytes - 1 - i / 8) (by omega))
    have hpos : 8 * (w.bytes - 1 - (w.bytes - 1 - i / 8)) + i % 8 = i := by omega
    simpa [byteAt, hpos, Nat.mod_lt] using hk
  · have hp : 2 ^ w.bits ≤ 2 ^ i := Nat.pow_le_pow_right (by decide) (by omega)
    rw [BitVec.getLsbD, BitVec.getLsbD, Nat.testBit_lt_two_pow (by omega), Nat.testBit_lt_two_pow (by omega)]

/-- Big-endian order: byte `k` of the datum read is the byte `k` places on. -/
theorem byteAt_read (m : Memory) (pa : PAddr) (w : Width) {k : Nat} (hk : k < w.bytes) :
    byteAt w (m.read pa w) k = m.readByte (pa + BitVec.ofNat 32 k) := by
  refine BitVec.eq_of_getLsbD_eq fun i hi => ?_
  cases w with
  | byte =>
    obtain rfl : k = 0 := Nat.lt_one_iff.mp hk
    simp [byteAt, Memory.read, Width.bytes, hi]
    omega
  | half | word | dword =>
    rw [Width.bytes] at hk
    interval_cases k <;> simp [byteAt, Memory.read, Width.bytes] <;> grind

theorem read_lt (m : Memory) (pa : PAddr) (w : Width) : (m.read pa w).toNat < 2 ^ w.bits := by
  cases w with
  | dword => exact BitVec.isLt _
  | byte | half | word =>
    rw [Memory.read, BitVec.toNat_setWidth]
    exact Nat.lt_of_le_of_lt (Nat.mod_le ..) (BitVec.isLt _)

-- The port.

theorem width_bytes_le (w : Width) : w.bytes ≤ 8 := by cases w <;> decide

theorem datum_place {w : Width} (pa : PAddr) {k : Nat} (hk : k < w.bytes) :
    (pa + BitVec.ofNat 32 k - pa).toNat = k := by
  have hw := width_bytes_le w
  rw [BitVec.add_comm, BitVec.add_sub_cancel, BitVec.toNat_ofNat, Nat.mod_eq_of_lt (by omega)]

section
variable {s t : State} {pa : PAddr} {w : Width} {v : DWord}

/-- What the bytes of one port write are is all that `Written` says. -/
theorem written_of_mem (h : t.mem = s.memAfterWrite pa w v) : Written pa w v s t where
  outside a ha := by
    rw [h, ← memWrite_mem]
    exact readByte_memWrite_other (Nat.not_lt.mpr ha)
  ram hr k hk := by
    rw [h, ← memWrite_mem, readByte_memWrite_ram hr (by rwa [datum_place pa hk]), datum_place pa hk]
  other hr a := by
    rw [h, State.memAfterWrite]
    split
    · next hram => exact absurd hram hr
    · rfl

theorem memReadValue_bytes (hr : s.region pa = some .ram ∨ s.region pa = some .rom) :
    s.memReadValue pa w = s.mem.read pa w := by
  rcases hr with hr | hr <;> rw [State.memReadValue, hr]

theorem read_memWrite (hr : s.region pa = some .ram) :
    ((s.memWrite pa w v).memReadValue pa w) = zext w.bits v := by
  have hread : (s.memWrite pa w v).memReadValue pa w = (s.memWrite pa w v).mem.read pa w :=
    memReadValue_bytes (.inl hr)
  have hlt : (zext w.bits v).toNat < 2 ^ w.bits := by
    rw [zext_toNat]
    exact Nat.mod_lt _ (Nat.two_pow_pos _)
  rw [hread]
  refine eq_of_bytes (read_lt ..) hlt fun k hk => ?_
  have hwritten : Written pa w v s (s.memWrite pa w v) := written_of_mem rfl
  rw [byteAt_read _ _ _ hk, hwritten.ram hr k hk, byteAt_zext w v hk]

theorem ports_of_not_device (h : s.region pa ≠ some .device) :
    s.portsAfterRead pa w = s.ports ∧ s.portsAfterWrite pa w v = s.ports := by
  rw [State.portsAfterRead, State.portsAfterWrite]
  split
  · next hd => exact absurd hd h
  · exact ⟨rfl, rfl⟩

end

/-- Settles O30, by the region of the first byte. -/
theorem memoryPort : Obligations.MemoryPort := by
  intro s pa w v
  refine ⟨written_of_mem rfl, fun hr => ?bytes, fun hn => ?unmapped, fun hr => ?back, fun b =>
    ⟨written_of_mem rfl, rfl⟩, rfl, rfl, fun hd => ?device, ports_of_not_device⟩
  case bytes =>
    rw [memReadValue_bytes hr]
    exact ⟨fun k hk => byteAt_read _ _ _ hk, read_lt ..⟩
  case unmapped => rw [State.memReadValue, hn]; rfl
  case back => rw [read_memWrite hr, zext_toNat]
  case device =>
    rw [State.portsAfterRead, State.portsAfterWrite, State.memReadValue, hd]
    exact ⟨rfl, zext_toNat .., _, zext_toNat w v, rfl⟩

end Sys2Proof.Proofs

/-! Loads and stores (43_load_store.md): the address phase, what each shape of access does past it, and its faults. -/

namespace Sys2Proof.Proofs

open Sys2Proof.Machine Sys2Proof.Laws Sys2Proof.Safety

-- The address phase (R320, R321).

theorem ea_eq (s : State) (base : RegIdx) (imm : BitVec 16) :
    s.ea base imm = BitVec.ofInt 64 ((s.readReg base).toNat + imm.toInt) := by
  rw [BitVec.ofInt_add, BitVec.ofInt_natCast, BitVec.ofNat_toNat, BitVec.setWidth_eq]
  rfl

theorem aligned_iff (w : Width) (va : VAddr) : aligned w va = true ↔ va.toNat % w.bytes = 0 := by
  cases w with
  | byte => simp [aligned, Width.bytes, Nat.mod_one]
  | half | word | dword =>
    rw [aligned, beq_iff_eq, extractLsb'_eq_iff, Nat.pow_zero, Nat.div_one]
    rfl

/-- Settles O37, by the two tests of the address phase. -/
theorem dataAddress : Obligations.DataAddress := by
  intro s kind w ck base imm pa
  refine ⟨ea_eq s base imm, fun h => ?_, fun ⟨ha, hx⟩ => locate_of_xlate (fun hck => (aligned_iff ..).mpr (ha hck)) hx⟩
  obtain ⟨ha, hx⟩ := locate_ok h
  exact ⟨fun hck => (aligned_iff ..).mp (ha hck), hx⟩

-- What each shape of access does.

section
variable {s : State} {i : Instr} {w : Width} {ck : Bool} {rt base : RegIdx} {imm : BitVec 16} {pa : PAddr}

theorem loaded_writeReg (r : RegIdx) (v : DWord) (pa : PAddr) (w : Width) (s : State) :
    Loaded r v pa w s ((s.memRead pa w).2.writeReg r v) :=
  ⟨fun q => readReg_writeReg r q v _, fun _ => rfl, rfl, onlyRegMem_writeReg r v _⟩

theorem onlyRegMem_mem (m : Memory) (ports : List Config.PortCall) : OnlyRegMem s { s with mem := m, ports := ports } :=
  ⟨⟨rfl, rfl⟩, ⟨rfl, rfl, rfl, rfl, rfl⟩, ⟨rfl, rfl⟩, rfl, rfl, rfl, rfl, rfl⟩

theorem completes_load {ext : DWord → DWord} {v : DWord} (hx : exec i s = s.load w ck rt base imm ext)
    (h : dataAddr .load w ck base imm s = .ok pa) (hv : ext (s.memReadValue pa w) = v) :
    Completes i s (Loaded rt v pa w s) :=
  ⟨_, hx.trans (load_ok h), hv ▸ loaded_writeReg ..⟩

theorem completes_store (hx : exec i s = s.store w ck rt base imm) (h : dataAddr .store w ck base imm s = .ok pa) :
    Completes i s (Stored pa w (s.readReg rt) s) :=
  ⟨_, hx.trans (store_ok h), written_of_mem rfl, fun _ => rfl, rfl, onlyRegMem_mem ..⟩

theorem completes_loadLinked {ext : DWord → DWord} {v : DWord} (hx : exec i s = s.loadLinked w rt base imm ext)
    (h : dataAddr .load w true base imm s = .ok pa) (hv : ext (s.memReadValue pa w) = v) :
    Completes i s (LinkedLoaded rt v pa w s) := by
  refine ⟨_, hx.trans (loadLinked_ok h), hv ▸ ?_⟩
  exact ⟨fun q => readReg_writeReg rt q _ _, fun _ => rfl, rfl, rfl, rfl, rfl, ⟨rfl, rfl⟩, ⟨rfl, rfl, rfl, rfl, rfl⟩,
    rfl, rfl, rfl, rfl⟩

theorem storeIfLinked_held (h : s.llBit = true) (v : DWord) : s.storeIfLinked pa w v = s.memWrite pa w v := if_pos h

theorem storeIfLinked_lost (h : s.llBit = false) (v : DWord) : s.storeIfLinked pa w v = s :=
  if_neg (Bool.eq_false_iff.mp h)

theorem completes_storeConditional (hx : exec i s = s.storeConditional w rt base imm)
    (h : dataAddr .store w true base imm s = .ok pa) : Completes i s (Conditional rt pa w s) := by
  refine ⟨_, hx.trans (storeConditional_ok h), ?_⟩
  cases hl : s.llBit with
  | true =>
    rw [storeIfLinked_held hl]
    exact ⟨fun _ => ⟨written_of_mem rfl, rfl⟩, fun hf => absurd (hl.symm.trans hf) (by decide),
      fun q => (readReg_writeReg rt q _ _).trans (by rw [hl]; rfl), rfl, rfl, ⟨rfl, rfl⟩,
      ⟨rfl, rfl, rfl, rfl, rfl⟩, rfl, rfl, rfl, rfl, rfl⟩
  | false =>
    rw [storeIfLinked_lost hl]
    exact ⟨fun ht => absurd (hl.symm.trans ht) (by decide), fun _ => ⟨fun _ => rfl, rfl⟩,
      fun q => (readReg_writeReg rt q _ _).trans (by rw [hl]; rfl), rfl, rfl, ⟨rfl, rfl⟩,
      ⟨rfl, rfl, rfl, rfl, rfl⟩, rfl, rfl, rfl, rfl, rfl⟩

end

/-- Settles O38, each form by its width and extension. -/
theorem loads : Obligations.Loads := fun _ _ _ _ _ =>
  ⟨fun h => ⟨completes_load rfl h rfl, completes_load rfl h rfl⟩,
    fun h => ⟨completes_load rfl h rfl, completes_load rfl h rfl⟩,
    fun h => ⟨completes_load rfl h rfl, completes_load rfl h rfl⟩, fun h => completes_load rfl h rfl⟩

/-- Settles O41, each form by its width. -/
theorem stores : Obligations.Stores := fun _ _ _ _ _ =>
  ⟨completes_store rfl, completes_store rfl, completes_store rfl, completes_store rfl⟩

/-- Settles O43. -/
theorem loadLinkedStoreConditional : Obligations.LoadLinkedStoreConditional := fun _ _ _ _ _ =>
  ⟨fun h => completes_loadLinked rfl h rfl, fun h => completes_loadLinked rfl h rfl, completes_storeConditional rfl,
    completes_storeConditional rfl⟩

-- Faults (R320, R344).

/-- Every load and store, the FPU's once it is usable, is its work behind the address phase. -/
theorem exec_access {i : Instr} {x : DataAccess} (h : accessOf i = some x) {s : State}
    (hu : IsCop1 i → statusCU1 s.cop0.status = true) :
    ∃ k, exec i s = withDataAddr x.kind x.width x.checked x.base x.imm s k := by
  cases i
  case lb | lbu | lh | lhu | lw | lwu | ld | ll | lld => cases h; exact ⟨_, rfl⟩
  case lwl | lwr | ldl | ldr => cases h; exact ⟨_, rfl⟩
  case sb | sh | sw | sd | sc | scd => cases h; exact ⟨_, rfl⟩
  case swl | swr | sdl | sdr => cases h; exact ⟨_, rfl⟩
  case lwc1 | ldc1 | swc1 | sdc1 => cases h; exact ⟨_, withCop1_open (hu (.inr (.inr rfl))) _⟩
  all_goals cases h

/-- Settles O45: a fault of the address phase is the whole effect. -/
theorem dataFaults : Obligations.DataFaults := by
  intro s i x hx hu
  obtain ⟨k, hk⟩ := exec_access hx hu
  refine ⟨fun hck ha => ?_, fun f ha hf => ?_⟩
  · have hmis : aligned x.width (s.ea x.base x.imm) = false :=
      Bool.eq_false_iff.mpr fun hal => ha ((aligned_iff ..).mp hal)
    rw [hck] at hk
    refine ⟨_, hk.trans (withDataAddr_raised (locate_misaligned hmis) k), ?_⟩
    have hkind : (if x.kind = .load then ExcKind.addressErrorLoad else .addressErrorStore) = addressErrorOf x.kind := by
      cases x.kind <;> rfl
    rw [hkind]
    exact faultEntered_raiseAddress ..
  · have hal (hck : x.checked = true) : aligned x.width (s.ea x.base x.imm) = true := (aligned_iff ..).mpr (ha hck)
    have hloc := locate_fail (pc := s.oldPC) hal hf (excOf_of_xlate hf)
    exact ⟨_, hk.trans (withDataAddr_raised hloc k), faultEntered_raiseAddress ..⟩

/-- Settles O59: past the CU1 test and the address phase, one port call and one FPU call. -/
theorem cop1LoadsAndStores : Obligations.Cop1LoadsAndStores := by
  rintro s ft base imm pa w _ ld st v hu rfl hf hv
  have hz : v = s.fpuStoreData ft w := BitVec.eq_of_toNat_eq (hv.trans (zext_toNat ..).symm)
  have hld : exec ld s = s.fpuLoad w ft base imm := by
    rcases hf with ⟨rfl, rfl, -⟩ | ⟨rfl, rfl, -⟩ <;> rfl
  have hst : exec st s = s.fpuStore w ft base imm := by
    rcases hf with ⟨rfl, -, rfl⟩ | ⟨rfl, -, rfl⟩ <;> rfl
  refine ⟨fun h => ?_, fun h => ?_⟩
  · exact ⟨_, hld.trans ((withCop1_open hu _).trans (withDataAddr_ok h _)), onlyPorts_set _⟩
  · refine ⟨_, hst.trans ((withCop1_open hu _).trans (withDataAddr_ok h _)), ?_⟩
    rw [← hz]
    exact ⟨written_of_mem rfl, fun _ => rfl, onlyRegMem_mem .., rfl⟩

end Sys2Proof.Proofs

/-! The left and right forms (43_load_store.md R329 to R332, R338 to R342), byte by byte. The loads and the stores
share two merges: one keeps low bits of the old datum and puts the new one above them, one keeps high bits and puts
it below. -/

namespace Sys2Proof.Proofs

open Sys2Proof.Machine Sys2Proof.Laws Sys2Proof.Safety

-- The two merges, bit by bit and byte by byte.

section
variable {n : Nat} (a v : BitVec n) {s p : Nat}

/-- Low bits of `a`, then `v` above them. -/
theorem getLsbD_mergeStoreRight {i : Nat} (hi : i < n) :
    (mergeStoreRight a v s).getLsbD i = if i < s then a.getLsbD i else v.getLsbD (i - s) := by
  simp only [mergeStoreRight, BitVec.getLsbD_or, BitVec.getLsbD_and, BitVec.getLsbD_not, BitVec.getLsbD_shiftLeft,
    BitVec.getLsbD_allOnes, hi, decide_true, Bool.true_and]
  by_cases hs : i < s
  · simp [hs]
  · simp [hs, show i - s < n by omega]

/-- High bits of `a`, and `v` below them. -/
theorem getLsbD_mergeStoreLeft {i : Nat} (hi : i < n) :
    (mergeStoreLeft a v s).getLsbD i = if i + s < n then v.getLsbD (i + s) else a.getLsbD i := by
  simp only [mergeStoreLeft, BitVec.getLsbD_or, BitVec.getLsbD_and, BitVec.getLsbD_not, BitVec.getLsbD_ushiftRight,
    BitVec.getLsbD_allOnes, hi, decide_true, Bool.true_and, Nat.add_comm s i]
  by_cases hs : i + s < n
  · simp [hs]
  · simp [hs, BitVec.getLsbD_of_ge v (i + s) (by omega)]

theorem extract_mergeStoreRight (hp : p + 8 ≤ n) (hs : p + 8 ≤ s ∨ s ≤ p) : (mergeStoreRight a v s).extractLsb' p 8 =
    if s ≤ p then v.extractLsb' (p - s) 8 else a.extractLsb' p 8 := by
  refine BitVec.eq_of_getLsbD_eq fun i hi => ?_
  rw [BitVec.getLsbD_extractLsb', getLsbD_mergeStoreRight a v (by omega)]
  split_ifs
  · omega
  · rw [BitVec.getLsbD_extractLsb']
  · rw [BitVec.getLsbD_extractLsb', show p + i - s = p - s + i by omega]
  · omega

theorem extract_mergeStoreLeft (hp : p + 8 ≤ n) (hs : p + s + 8 ≤ n ∨ n ≤ p + s) :
    (mergeStoreLeft a v s).extractLsb' p 8 =
      if p + s + 8 ≤ n then v.extractLsb' (p + s) 8 else a.extractLsb' p 8 := by
  refine BitVec.eq_of_getLsbD_eq fun i hi => ?_
  rw [BitVec.getLsbD_extractLsb', getLsbD_mergeStoreLeft a v (by omega)]
  split_ifs
  · rw [BitVec.getLsbD_extractLsb', show p + i + s = p + s + i by omega]
  · omega
  · omega
  · rw [BitVec.getLsbD_extractLsb']

end

/-- Byte `k` of a datum of width `w`, as a slice of that width. -/
def byteOf {n : Nat} (w : Width) (x : BitVec n) (k : Nat) : Byte := x.extractLsb' (8 * (w.bytes - 1 - k)) 8

section
variable {w : Width} {n : Nat} (hn : n = w.bits) (a v : BitVec n) {o k : Nat} (ho : o < w.bytes) (hk : k < w.bytes)
include hn ho hk

/-- A left load, and a right store: the bytes of `v` from `o` on go to the start. -/
theorem byteOf_mergeLoadLeft : byteOf w (mergeLoadLeft a v (8 * o)) k =
    if k < w.bytes - o then byteOf w v (o + k) else byteOf w a k := by
  have hb : n = 8 * w.bytes := hn
  rw [byteOf, mergeLoadLeft, ← mergeStoreRight, extract_mergeStoreRight _ _ (by omega) (by omega)]
  split_ifs
  · rw [byteOf]
    congr 1
    omega
  · omega
  · omega
  · rfl

theorem byteOf_mergeStoreRight : byteOf w (mergeStoreRight a v (8 * (w.bytes - 1) - 8 * o)) k =
    if k ≤ o then byteOf w v (w.bytes - 1 - o + k) else byteOf w a k := by
  have hb : n = 8 * w.bytes := hn
  rw [byteOf, extract_mergeStoreRight _ _ (by omega) (by omega)]
  split_ifs
  · rw [byteOf]
    congr 1
    omega
  · omega
  · omega
  · rfl

theorem byteOf_mergeLoadRight : byteOf w (mergeLoadRight a v (8 * (w.bytes - 1) - 8 * o)) k =
    if w.bytes - 1 - o ≤ k then byteOf w v (k - (w.bytes - 1 - o)) else byteOf w a k := by
  have hb : n = 8 * w.bytes := hn
  rw [byteOf, mergeLoadRight, ← mergeStoreLeft, extract_mergeStoreLeft _ _ (by omega) (by omega)]
  split_ifs
  · rw [byteOf]
    congr 1
    omega
  · omega
  · omega
  · rfl

omit ho in
theorem byteOf_mergeStoreLeft : byteOf w (mergeStoreLeft a v (8 * o)) k =
    if o ≤ k then byteOf w v (k - o) else byteOf w a k := by
  have hb : n = 8 * w.bytes := hn
  rw [byteOf, extract_mergeStoreLeft _ _ (by omega) (by omega)]
  split_ifs
  · rw [byteOf]
    congr 1
    omega
  · omega
  · omega
  · rfl

end

theorem byteOf_low32 (v : DWord) (k : Nat) : byteOf .word (low32 v) k = byteAt .word v k :=
  extract_setWidth v (by simp [Width.bytes]; omega)

theorem byteAt_signExtend_word (v : Word) (k : Nat) : byteAt .word (v.signExtend 64) k = byteOf .word v k :=
  extract_signExtend v (by simp [Width.bytes]; omega) (by simp [Width.bytes]; omega)

theorem byteAt_setWidth_word (v : Word) (k : Nat) : byteAt .word (v.setWidth 64) k = byteOf .word v k :=
  extract_setWidth v (by simp [Width.bytes]; omega)

theorem low32_signExtend (x : Word) : low32 (x.signExtend 64) = x := by
  refine BitVec.eq_of_getLsbD_eq fun i hi => ?_
  simp only [low32, BitVec.getLsbD_setWidth, BitVec.getLsbD_signExtend, hi, decide_true, Bool.true_and, if_true,
    show i < 64 by omega]

-- The offsets are those of the effective address.

theorem wordShift_eq (ea : VAddr) : wordShift ea = 8 * offsetIn .word ea := by
  rw [wordShift, BitVec.extractLsb'_toNat, Nat.shiftRight_zero]
  rfl

theorem dwordShift_eq (ea : VAddr) : dwordShift ea = 8 * offsetIn .dword ea := by
  rw [dwordShift, BitVec.extractLsb'_toNat, Nat.shiftRight_zero]
  rfl

theorem offsetIn_lt (w : Width) (ea : VAddr) : offsetIn w ea < w.bytes := Nat.mod_lt _ (by cases w <;> decide)

-- The merged values, byte by byte.

section
variable (ea : VAddr) (a v : DWord) {k : Nat}

theorem byteAt_lwlValue (hk : k < 4) : byteAt .word (lwlValue ea a v) k =
    if k < 4 - offsetIn .word ea then byteAt .word v (offsetIn .word ea + k) else byteAt .word a k := by
  have h := byteOf_mergeLoadLeft (w := .word) (n := 32) rfl (low32 a) (low32 v) (offsetIn_lt .word ea) hk
  rw [byteOf_low32, byteOf_low32] at h
  rw [lwlValue, wordShift_eq, byteAt_signExtend_word]
  exact h

theorem byteAt_lwrValue (hk : k < 4) : byteAt .word (lwrValue ea a v) k =
    if 3 - offsetIn .word ea ≤ k then byteAt .word v (k - (3 - offsetIn .word ea)) else byteAt .word a k := by
  have h := byteOf_mergeLoadRight (w := .word) (n := 32) rfl (low32 a) (low32 v) (offsetIn_lt .word ea) hk
  rw [byteOf_low32, byteOf_low32] at h
  rw [lwrValue, wordShift_eq, byteAt_signExtend_word]
  exact h

theorem byteAt_ldlValue (hk : k < 8) : byteAt .dword (ldlValue ea a v) k =
    if k < 8 - offsetIn .dword ea then byteAt .dword v (offsetIn .dword ea + k) else byteAt .dword a k := by
  rw [ldlValue, dwordShift_eq]
  exact byteOf_mergeLoadLeft (w := .dword) rfl a v (offsetIn_lt .dword ea) hk

theorem byteAt_ldrValue (hk : k < 8) : byteAt .dword (ldrValue ea a v) k =
    if 7 - offsetIn .dword ea ≤ k then byteAt .dword v (k - (7 - offsetIn .dword ea)) else byteAt .dword a k := by
  rw [ldrValue, dwordShift_eq]
  exact byteOf_mergeLoadRight (w := .dword) rfl a v (offsetIn_lt .dword ea) hk

theorem byteAt_swlValue (hk : k < 4) : byteAt .word (swlValue ea a v) k =
    if offsetIn .word ea ≤ k then byteAt .word v (k - offsetIn .word ea) else byteAt .word a k := by
  have h := byteOf_mergeStoreLeft (w := .word) (n := 32) (o := offsetIn .word ea) rfl (low32 a) (low32 v) hk
  rw [byteOf_low32, byteOf_low32] at h
  rw [swlValue, wordShift_eq, byteAt_setWidth_word]
  exact h

theorem byteAt_swrValue (hk : k < 4) : byteAt .word (swrValue ea a v) k =
    if k ≤ offsetIn .word ea then byteAt .word v (3 - offsetIn .word ea + k) else byteAt .word a k := by
  have h := byteOf_mergeStoreRight (w := .word) (n := 32) rfl (low32 a) (low32 v) (offsetIn_lt .word ea) hk
  rw [byteOf_low32, byteOf_low32] at h
  rw [swrValue, wordShift_eq, byteAt_setWidth_word]
  exact h

theorem byteAt_sdlValue (hk : k < 8) : byteAt .dword (sdlValue ea a v) k =
    if offsetIn .dword ea ≤ k then byteAt .dword v (k - offsetIn .dword ea) else byteAt .dword a k := by
  rw [sdlValue, dwordShift_eq]
  exact byteOf_mergeStoreLeft (w := .dword) rfl a v hk

theorem byteAt_sdrValue (hk : k < 8) : byteAt .dword (sdrValue ea a v) k =
    if k ≤ offsetIn .dword ea then byteAt .dword v (7 - offsetIn .dword ea + k) else byteAt .dword a k := by
  rw [sdrValue, dwordShift_eq]
  exact byteOf_mergeStoreRight (w := .dword) rfl a v (offsetIn_lt .dword ea) hk

end

section
variable {s : State} {i : Instr} {w : Width} {rt base : RegIdx} {imm : BitVec 16} {pa : PAddr}
  {m : VAddr → DWord → DWord → DWord} {new : Nat → Byte}

theorem completes_loadMerged (hx : exec i s = s.loadMerged w rt base imm m)
    (h : dataAddr .load w false base imm s = .ok pa)
    (hnew : ∀ k, k < w.bytes →
      byteAt w (m (s.ea base imm) (s.readReg rt) (s.memReadValue (alignDown w pa) w)) k = new k)
    (hsext : w = .word → ∃ x : Word, m (s.ea base imm) (s.readReg rt) (s.memReadValue (alignDown w pa) w) =
      x.signExtend 64) : Completes i s (LoadedBytes rt w (alignDown w pa) new s) := by
  refine ⟨_, hx.trans (loadMerged_ok h), _, hnew, fun hw => ?_, loaded_writeReg ..⟩
  obtain ⟨x, he⟩ := hsext hw
  rw [he, low32_signExtend]

theorem completes_storeMerged (hx : exec i s = s.storeMerged w rt base imm m)
    (h : dataAddr .store w false base imm s = .ok pa)
    (hnew : ∀ k, k < w.bytes →
      byteAt w (m (s.ea base imm) (s.memReadValue (alignDown w pa) w) (s.readReg rt)) k = new k) :
    Completes i s (StoredBytes w (alignDown w pa) new s) :=
  ⟨_, hx.trans (storeMerged_ok h), _, hnew, written_of_mem rfl, fun _ => rfl, rfl, onlyRegMem_mem ..⟩

end

/-- Settles O39, by the merged values. -/
theorem loadsLeftRight : Obligations.LoadsLeftRight := by
  rintro s rt base imm pa _ _ _ rfl rfl rfl
  refine ⟨fun h => ⟨?lwl, ?lwr⟩, fun h => ⟨?ldl, ?ldr⟩⟩
  case lwl => exact completes_loadMerged rfl h (fun _ => byteAt_lwlValue _ _ _) fun _ => ⟨_, rfl⟩
  case lwr => exact completes_loadMerged rfl h (fun _ => byteAt_lwrValue _ _ _) fun _ => ⟨_, rfl⟩
  case ldl => exact completes_loadMerged rfl h (fun _ => byteAt_ldlValue _ _ _) nofun
  case ldr => exact completes_loadMerged rfl h (fun _ => byteAt_ldrValue _ _ _) nofun

/-- Settles O42, by the merged values. -/
theorem storesLeftRight : Obligations.StoresLeftRight := by
  rintro s rt base imm pa _ _ _ rfl rfl rfl
  refine ⟨fun h => ⟨?swl, ?swr⟩, fun h => ⟨?sdl, ?sdr⟩⟩
  case swl => exact completes_storeMerged rfl h fun _ => byteAt_swlValue _ _ _
  case swr => exact completes_storeMerged rfl h fun _ => byteAt_swrValue _ _ _
  case sdl => exact completes_storeMerged rfl h fun _ => byteAt_sdlValue _ _ _
  case sdr => exact completes_storeMerged rfl h fun _ => byteAt_sdrValue _ _ _

end Sys2Proof.Proofs

/-! The pair of left and right loads (43_load_store.md R342): translation keeps the offset in the page, so the two
aligned data are those around the unaligned word, and each of its bytes comes from one of the two loads. -/

namespace Sys2Proof.Proofs

open Sys2Proof.Machine Sys2Proof.Laws Sys2Proof.Safety

-- Translation keeps the offset in an aligned word.

theorem seg32_direct {m : Mode} {a : Word} {base : VAddr} (h : seg32 m a = .direct base) :
    base = kseg0Base ∨ base = kseg1Base := by
  unfold seg32 at h
  split at h
  case h_1 => cases m <;> cases h; exact .inl rfl
  case h_2 => cases m <;> cases h; exact .inr rfl
  case h_3 | h_4 => cases m <;> cases h
  case h_5 => cases h

theorem seg64_direct {m : Mode} {va base : VAddr} (h : seg64 m va = .direct base) :
    base = kseg0Base ∨ base = kseg1Base := by
  cases m with
  | user =>
    simp only [seg64, seg64User] at h
    split_ifs at h
  | supervisor =>
    simp only [seg64, seg64Supervisor] at h
    split_ifs at h
  | kernel =>
    simp only [seg64, seg64Kernel] at h
    split_ifs at h
    · exact .inl (Segment.direct.inj h).symm
    · exact .inr (Segment.direct.inj h).symm

theorem segmentOf_direct {wide : Bool} {m : Mode} {va base : VAddr} (h : segmentOf wide m va = .direct base) :
    base.toNat % 4 = 0 := by
  have hb : base = kseg0Base ∨ base = kseg1Base := by
    cases wide with
    | true => exact seg64_direct h
    | false => exact seg32_direct h
  rcases hb with rfl | rfl <;> decide

theorem effectiveVA_mod4 (wide : Bool) (va : VAddr) : (effectiveVA wide va).toNat % 4 = va.toNat % 4 := by
  have h := congrArg BitVec.toNat (low32_effectiveVA wide va)
  rw [low32, low32, BitVec.toNat_setWidth, BitVec.toNat_setWidth] at h
  omega

theorem framePA_mod4 (pfn : BitVec 24) (mask : BitVec 12) (va : VAddr) :
    (framePA pfn mask va).toNat % 4 = va.toNat % 4 := by
  have h : (framePA pfn mask va).extractLsb' 0 2 = va.extractLsb' 0 2 := by
    refine BitVec.eq_of_getLsbD_eq fun i hi => ?_
    have hoff : (0xFFF#64).getLsbD i = true := by
      interval_cases i <;> rfl
    simp only [framePA, pageOffsetMask, BitVec.getLsbD_extractLsb', BitVec.getLsbD_setWidth, BitVec.getLsbD_or,
      BitVec.getLsbD_and, BitVec.getLsbD_shiftLeft, Nat.zero_add, hoff, hi, show i < 12 by omega, show i < 32 by omega,
      decide_true, Bool.not_true, Bool.and_false, Bool.false_and, Bool.false_or, Bool.true_and, Bool.and_true]
  have hn := congrArg BitVec.toNat h
  rwa [BitVec.extractLsb'_toNat, BitVec.extractLsb'_toNat, Nat.shiftRight_zero, Nat.shiftRight_zero] at hn

theorem directPA_mod4 {va base : VAddr} (h : base.toNat % 4 = 0) : (directPA va base).toNat % 4 = va.toNat % 4 := by
  rw [directPA, BitVec.toNat_setWidth, BitVec.toNat_sub]
  have hb := base.isLt
  omega

theorem tlbLookup_mod4 {kind : Access} {tlb : Vector TlbEntry 32} {asid : BitVec 8} {va : VAddr} {pa : PAddr}
    (h : tlbLookup kind tlb asid va = .ok pa) : pa.toNat % 4 = va.toNat % 4 := by
  unfold tlbLookup tlbAccess at h
  split at h
  · cases h
  · split_ifs at h
    cases h
    exact framePA_mod4 ..

theorem xlate_mod4 {kind : Access} {va : VAddr} {s : State} {pa : PAddr} (h : xlate kind va s = .ok pa) :
    pa.toNat % 4 = va.toNat % 4 := by
  unfold xlate at h
  split at h
  · next m hm =>
    unfold xlateIn at h
    split at h
    · cases h
    · next base hs =>
      cases h
      rw [directPA_mod4 (segmentOf_direct hs), effectiveVA_mod4]
    · unfold xkphysPA at h
      split_ifs at h
      cases h
      rw [BitVec.toNat_setWidth]
      omega
    · rw [tlbLookup_mod4 h, effectiveVA_mod4]
  · cases h

theorem offsetIn_of_dataAddr {kind : Access} {w : Width} {ck : Bool} {base : RegIdx} {imm : BitVec 16} {s : State}
    {pa : PAddr} (h : dataAddr kind w ck base imm s = .ok pa) : offsetIn .word (s.ea base imm) = pa.toNat % 4 :=
  (xlate_mod4 (locate_ok h).2).symm

/-- Everything the address phase of an unchecked access reads. -/
theorem dataAddr_congr {kind : Access} {w : Width} {base : RegIdx} {imm : BitVec 16} {s t : State} {pa : PAddr}
    (hreg : t.readReg base = s.readReg base) (hcop0 : t.cop0 = s.cop0) (htlb : t.tlb = s.tlb)
    (h : dataAddr kind w false base imm s = .ok pa) : dataAddr kind w false base imm t = .ok pa := by
  have hea : t.ea base imm = s.ea base imm := by rw [State.ea, State.ea, hreg]
  refine locate_of_xlate nofun ?_
  rw [hea, ← (locate_ok h).2]
  simp only [xlate, xlateIn, hcop0, htlb]

-- The two aligned words.

theorem alignDown_word_toNat (pa : PAddr) : (alignDown .word pa).toNat = pa.toNat / 4 * 4 := by
  have h : alignDown .word pa = pa >>> 2 <<< 2 := by
    refine BitVec.eq_of_getLsbD_eq fun i hi => ?_
    have hmask : (0xFFFFFFFC#32).getLsbD i = decide (2 ≤ i) := by
      interval_cases i <;> rfl
    simp only [alignDown, BitVec.getLsbD_and, hmask, BitVec.getLsbD_shiftLeft, BitVec.getLsbD_ushiftRight, hi]
    by_cases h2 : 2 ≤ i
    · simp [h2, show 2 + (i - 2) = i by omega, show ¬i < 2 by omega]
    · simp [h2, show i < 2 by omega]
  rw [h, BitVec.toNat_shiftLeft, BitVec.toNat_ushiftRight, Nat.shiftLeft_eq, Nat.shiftRight_eq_div_pow]
  have := pa.isLt
  omega

/-- Byte `k` of the aligned word around `pa`, when it stands in RAM. -/
theorem datumByte_ram {s : State} {p : PAddr} {k : Nat} (hr : s.region p = some .ram) (hk : k < 4) :
    datumByte s p .word k = s.mem.readByte (p + BitVec.ofNat 32 k) := by
  rw [datumByte, memReadValue_bytes (.inl hr), byteAt_read _ _ _ hk]

theorem low32_of_bytes {m : Memory} {pa : PAddr} {v : DWord}
    (h : ∀ k, k < 4 → byteAt .word v k = m.readByte (pa + BitVec.ofNat 32 k)) :
    low32 v = m.readByte pa ++ m.readByte (pa + 1#32) ++ m.readByte (pa + 2#32) ++ m.readByte (pa + 3#32) := by
  have hz : zext 32 v = m.read pa .word := by
    refine eq_of_bytes (w := .word) ?_ (read_lt ..) fun k hk => ?_
    · rw [show 32 = Width.word.bits from rfl, zext_toNat]
      exact Nat.mod_lt _ (Nat.two_pow_pos _)
    · rw [show 32 = Width.word.bits from rfl, byteAt_zext _ _ hk, byteAt_read _ _ _ hk, h k hk]
  have hl := congrArg low32 hz
  simpa [zext, low32, Memory.read] using hl

theorem alignDown_word_add (pa : PAddr) {k : Nat} (hk : pa.toNat % 4 ≤ k) :
    alignDown .word pa + BitVec.ofNat 32 k = pa + BitVec.ofNat 32 (k - pa.toNat % 4) := by
  have h := alignDown_word_toNat pa
  have hlt := pa.isLt
  apply BitVec.eq_of_toNat_eq
  rw [BitVec.toNat_add, BitVec.toNat_add, BitVec.toNat_ofNat, BitVec.toNat_ofNat, h]
  omega

theorem toNat_add_three (pa : PAddr) : (pa + 3#32).toNat = (pa.toNat + 3) % 2 ^ 32 := BitVec.toNat_add ..

theorem toNat_add_three_mod4 (pa : PAddr) : (pa + 3#32).toNat % 4 = (pa.toNat % 4 + 3) % 4 := by
  rw [toNat_add_three]
  omega

/-- The aligned word three bytes on, counted back to the unaligned word. -/
theorem alignDown_word_add_three (pa : PAddr) {k : Nat} (hk : 3 - (pa.toNat % 4 + 3) % 4 ≤ k) :
    alignDown .word (pa + 3#32) + BitVec.ofNat 32 (k - (3 - (pa.toNat % 4 + 3) % 4)) = pa + BitVec.ofNat 32 k := by
  apply BitVec.eq_of_toNat_eq
  rw [BitVec.toNat_add, BitVec.toNat_add, BitVec.toNat_ofNat, BitVec.toNat_ofNat, alignDown_word_toNat,
    toNat_add_three]
  omega

theorem onlyRegMem_trans {s t u : State} (h : OnlyRegMem s t) (k : OnlyRegMem t u) : OnlyRegMem s u := by
  obtain ⟨hhilo, hpcs, hlatches, hcop0, htlb, hparams, hschedule, hdraws⟩ := h
  obtain ⟨khilo, kpcs, klatches, kcop0, ktlb, kparams, kschedule, kdraws⟩ := k
  simp only [SameHiLo, SamePC, SameLatches] at *
  constructor <;> simp_all [SameHiLo, SamePC, SameLatches]

/-- Settles O40: a byte of the unaligned word comes from the left load when its word has it, and from the right load
otherwise. -/
theorem unalignedLoadPair : Obligations.UnalignedLoadPair := by
  intro s rt base pa hrt hbase hl hr hram hram'
  obtain ⟨hleft, -⟩ := (loadsLeftRight s rt base 0 pa _ _ _ rfl rfl rfl).1 hl
  obtain ⟨t, ht, v, hv, -, hloaded⟩ := hleft
  have hregs : t.readReg base = s.readReg base := (hloaded.reg base).trans (if_neg fun hc => hbase hc.1.symm)
  have hrest := hloaded.rest
  have hr' := dataAddr_congr hregs hrest.cop0 hrest.tlb hr
  obtain ⟨-, hright⟩ := (loadsLeftRight t rt base 3 (pa + 3#32) _ _ _ rfl rfl rfl).1 hr'
  obtain ⟨u, hu, x, hx, hsext, hloaded'⟩ := hright
  have hregion : t.region (alignDown .word (pa + 3#32)) = some .ram := by rw [State.region, hrest.params, ← hram']; rfl
  have hrt' (w : DWord) : (if rt = rt ∧ rt ≠ 0#5 then v else w) = v := if_pos ⟨rfl, hrt⟩
  have hbytes : ∀ k, k < 4 → byteAt .word x k = s.mem.readByte (pa + BitVec.ofNat 32 k) := by
    intro k hk
    refine (hx k hk).trans ?_
    dsimp only
    rw [offsetIn_of_dataAddr hr', toNat_add_three_mod4]
    split_ifs with hfrom
    · rw [datumByte_ram hregion (by omega), hloaded.bytes, alignDown_word_add_three pa hfrom]
    · rw [regByte, hloaded.reg, hrt', hv k hk]
      dsimp only
      rw [offsetIn_of_dataAddr hl, if_pos (by omega),
        datumByte_ram hram (by omega), alignDown_word_add pa (by omega), Nat.add_sub_cancel_left]
  have hword := low32_of_bytes hbytes
  refine ⟨t, u, ht, hu, ?_, fun q hq => ?_, fun a => ?_, ?_⟩
  · rw [hloaded'.reg, if_pos ⟨rfl, hrt⟩, hsext rfl, hword]
  · rw [hloaded'.reg, if_neg fun hc => hq hc.1, hloaded.reg, if_neg fun hc => hq hc.1]
  · rw [hloaded'.bytes, hloaded.bytes]
  · exact onlyRegMem_trans hrest hloaded'.rest

end Sys2Proof.Proofs

/-! Code outside kernel mode behind the COP0 gate (60_exceptions.md R495, 45_cop0_tlb.md R400): the events of a gap,
a fetch and every instruction but the gated ones leave what only system code writes; an exception entry adds EXL and
EPC. -/

namespace Sys2Proof.Proofs

open Sys2Proof.Machine Sys2Proof.Laws Sys2Proof.Safety

/-- What of COP0 only system code writes, Status and EPC apart, is in `d` as in `c`. -/
structure SystemSame (c d : Cop0) : Prop where
  index : d.index = c.index
  entryLo0 : d.entryLo0 = c.entryLo0
  entryLo1 : d.entryLo1 = c.entryLo1
  pageMask : d.pageMask = c.pageMask
  wired : d.wired = c.wired
  compare : d.compare = c.compare
  errorEPC : d.errorEPC = c.errorEPC
  asid : d.entryHi.extractLsb' 0 8 = c.entryHi.extractLsb' 0 8
  contextBase : d.context.extractLsb' 23 41 = c.context.extractLsb' 23 41
  xContextBase : d.xContext.extractLsb' 33 31 = c.xContext.extractLsb' 33 31
  software : d.cause.extractLsb' 8 2 = c.cause.extractLsb' 8 2

theorem systemSame_refl (c : Cop0) : SystemSame c c := ⟨rfl, rfl, rfl, rfl, rfl, rfl, rfl, rfl, rfl, rfl, rfl⟩

theorem systemSame_trans {c d e : Cop0} (h : SystemSame c d) (k : SystemSame d e) : SystemSame c e where
  index := k.index.trans h.index
  entryLo0 := k.entryLo0.trans h.entryLo0
  entryLo1 := k.entryLo1.trans h.entryLo1
  pageMask := k.pageMask.trans h.pageMask
  wired := k.wired.trans h.wired
  compare := k.compare.trans h.compare
  errorEPC := k.errorEPC.trans h.errorEPC
  asid := k.asid.trans h.asid
  contextBase := k.contextBase.trans h.contextBase
  xContextBase := k.xContextBase.trans h.xContextBase
  software := k.software.trans h.software

/-- A field inside a kept part is kept. -/
theorem extract_of_rest {n : Nat} {x y m : BitVec n} {j l : Nat} (h : x &&& m = y &&& m)
    (hm : m.extractLsb' j l = BitVec.allOnes l) : x.extractLsb' j l = y.extractLsb' j l := by
  have he := congrArg (·.extractLsb' j l) h
  simpa only [BitVec.extractLsb'_and, hm, BitVec.and_allOnes] using he

theorem systemSame_raise (c : Cop0) (kind : ExcKind) (cop : BitVec 2) (pc : VAddr) (d : Bool) :
    SystemSame c (c.raise kind cop pc d) :=
  have h := raise_sameFaultRegs c kind cop pc d
  { index := h.index
    entryLo0 := h.entryLo0
    entryLo1 := h.entryLo1
    pageMask := h.pageMask
    wired := h.wired
    compare := h.compare
    errorEPC := h.errorEPC
    asid := by rw [h.entryHi]
    contextBase := by rw [h.context]
    xContextBase := by rw [h.xContext]
    software := extract_of_rest (cause_raise_rest c kind cop pc d) (by decide) }

theorem systemSame_recordFault (c : Cop0) (va : VAddr) : SystemSame c (c.recordFault va) :=
  have h := recordFault_recorded va c
  { index := h.index
    entryLo0 := h.entryLo0
    entryLo1 := h.entryLo1
    pageMask := h.pageMask
    wired := h.wired
    compare := h.compare
    errorEPC := h.errorEPC
    asid := extract_of_rest h.entryHiRest (by decide)
    contextBase := extract_of_rest h.contextRest (by decide)
    xContextBase := extract_of_rest h.xContextRest (by decide)
    software := by rw [h.cause] }

-- The pending bits an event moves are none of the software interrupts'.

theorem software_setIP {m : BitVec 8} (h : (m.setWidth 32 <<< 8).extractLsb' 8 2 = 0#2) (c : Word) :
    (causeSetIP m c).extractLsb' 8 2 = c.extractLsb' 8 2 := by
  rw [causeSetIP, BitVec.extractLsb'_or, h, BitVec.or_zero]

theorem software_clearIP {m : BitVec 8} (h : (~~~(m.setWidth 32 <<< 8)).extractLsb' 8 2 = BitVec.allOnes 2) (c : Word) :
    (causeClearIP m c).extractLsb' 8 2 = c.extractLsb' 8 2 := by
  rw [causeClearIP, BitVec.extractLsb'_and, h, BitVec.and_allOnes]

theorem systemSame_event (c : Cop0) (e : EnvEvent) : SystemSame c (c.event e) := by
  cases e with
  | busWrite => exact systemSame_refl c
  | irqSet l => exact { systemSame_refl c with software := software_setIP (by cases l <;> decide) c.cause }
  | irqClear l => exact { systemSame_refl c with software := software_clearIP (by cases l <;> decide) c.cause }
  | timerTick =>
    have h : (if c.count + 1#32 = c.compare then causeSetIP ipTimer c.cause else c.cause).extractLsb' 8 2
        = c.cause.extractLsb' 8 2 := by
      split
      · exact software_setIP (by decide) c.cause
      · rfl
    exact { systemSame_refl c with software := h }

theorem event_epc (c : Cop0) (e : EnvEvent) : (c.event e).epc = c.epc := by cases e <;> rfl

theorem event_status (c : Cop0) (e : EnvEvent) : (c.event e).status = c.status := by cases e <;> rfl

/-- From `s` to `t` nothing that only system code writes has changed, Status and EPC included. -/
structure Untouched (s t : State) : Prop where
  same : SystemSame s.cop0 t.cop0
  status : t.cop0.status = s.cop0.status
  epc : t.cop0.epc = s.cop0.epc
  tlb : t.tlb = s.tlb
  params : t.params = s.params

theorem untouched_refl (s : State) : Untouched s s := ⟨systemSame_refl s.cop0, rfl, rfl, rfl, rfl⟩

theorem untouched_applyEvents (es : List EnvEvent) (s : State) : Untouched s (s.applyEvents es) := by
  induction es generalizing s with
  | nil => exact untouched_refl s
  | cons e es ih =>
    have h := ih (s.applyEvent e)
    exact ⟨systemSame_trans (systemSame_event s.cop0 e) h.same, h.status.trans (event_status ..),
      h.epc.trans (event_epc ..), h.tlb, h.params⟩

theorem untouched_beginStep (s : State) : Untouched s s.beginStep := by
  unfold State.beginStep State.arrive
  split
  · exact { untouched_refl s with }
  · exact { untouched_applyEvents _ s with }

/-- What a step of such code may do to the state that only system code writes. -/
structure SystemStep (s t : State) : Prop where
  same : SystemSame s.cop0 t.cop0
  status : t.cop0.status = s.cop0.status ∨ t.cop0.status = s.cop0.status ||| 0x00000002#32
  epc : t.cop0.epc ≠ s.cop0.epc → modeOf t.cop0.status = some .kernel
  tlb : t.tlb = s.tlb
  params : t.params = s.params

section
variable {s u : State} (h : Untouched s u)
include h

theorem systemStep_of_untouched : SystemStep s u := { h with status := .inl h.status, epc := fun hc => absurd h.epc hc }

theorem systemStep_raise (kind : ExcKind) (cop : BitVec 2) (pc : VAddr) (d : Bool) :
    SystemStep s (u.raise kind cop pc d) where
  same := systemSame_trans h.same (systemSame_raise ..)
  status := .inr (h.status ▸ status_raise ..)
  epc _ := modeOf_raise ..
  tlb := h.tlb
  params := h.params

theorem systemStep_raiseAddress (kind : ExcKind) (va pc : VAddr) : SystemStep s (u.raiseAddress kind va pc) := by
  have hr : Untouched s (u.recordFault va) := { h with same := systemSame_trans h.same (systemSame_recordFault ..) }
  exact systemStep_raise hr ..

/-- With the gate closed the shapes of the system coprocessor's own instructions are left out. -/
theorem systemStep_effect {i : Instr} {t : State} (hg : cop0Gated u = true) (he : Effect i u t) : SystemStep s t := by
  have hopen : cop0Gated u ≠ false := by simp [hg]
  cases he with
  | raised kind cop ports =>
    have hp : Untouched s { u with ports := ports } := { h with }
    exact systemStep_raise hp ..
  | addressRaised kind va err =>
    have ht : Untouched s { u with tlbError := err } := { h with }
    exact systemStep_raiseAddress ht ..
  | nothing | register | hilo | branched | likely | stored | conditional | lost | called =>
    exact systemStep_of_untouched { h with }
  | linked => exact systemStep_of_untouched { h with same := { h.same with } }
  | moved _ _ ho | staged _ ho | tlbWritten _ _ ho | probed ho | returned ho => exact absurd ho hopen

end

/-- Settles O60: whatever the step takes, it starts from an untouched state, and the gate is closed. -/
theorem userCannotChangeTheSystem : Obligations.UserCannotChangeTheSystem := by
  intro s t hgate hmode hcu hs
  have hb := untouched_beginStep s
  have hstep : SystemStep s t := by
    rcases step_cases hs with ⟨u, hf, rfl⟩ | ⟨w, u, hf, -, rfl⟩ | ⟨w, u, i, hf, -, -, hx⟩
    · obtain ⟨kind, err, rfl⟩ := locate_raised (fetch_raised hf)
      have hl : Untouched s { s.beginStep with tlbError := err } := { hb with }
      exact systemStep_raiseAddress hl ..
    · obtain ⟨pa, -, -, rfl⟩ := fetch_word hf
      have hr : Untouched s (s.beginStep.memRead pa .word).2 := { hb with }
      exact systemStep_raise hr ..
    · obtain ⟨pa, -, -, rfl⟩ := fetch_word hf
      have ha : Untouched s (s.beginStep.memRead pa .word).2.advance := { hb with }
      have hg := (cop0Gated_iff _).mpr ⟨ha.params ▸ hgate, ha.status ▸ hmode, ha.status ▸ hcu⟩
      exact systemStep_effect ha hg (exec_effect hx)
  have hk := hstep.same
  exact ⟨hstep.status, hstep.tlb, hk.index, hk.entryLo0, hk.entryLo1, hk.pageMask, hk.wired, hk.compare, hk.errorEPC,
    hstep.params, hk.asid, hk.contextBase, hk.xContextBase, hk.software, hstep.epc⟩

end Sys2Proof.Proofs
